-- ==== Sys2Proof/Word.lean ====
section
/-! DEFINITION. The word types of the engine: one name per width the spec gives. -/

namespace Sys2Proof

/-- A micro-operation word: 12 bits, one length, one format (R60). -/
abbrev MicroWord := BitVec 12

/-- The 6-bit `idx` field of a micro-operation word (R60, R61). -/
abbrev Idx := BitVec 6

/-- The container of a PulseCount: `W_CNT` bits with 1 ≤ `W_CNT` ≤ 32 (R4), so every count fits 32 bits.
Only the low `W_CNT` bits are ever used; `Safety.lean` states that as part of the invariant. -/
abbrev Count := BitVec 32

/-- The 40-bit Frame held in `SR` (R17, R64). -/
abbrev Frame := BitVec 40

/-- One byte of the Frame (R8, R17). -/
abbrev Byte := BitVec 8

/-- A word of the inspection port, `W_PORT` = 32 bits (R4, R46). -/
abbrev PortWord := BitVec 32

/-- A level of the line: `false` is 0 and low, `true` is 1 and high (R28). -/
abbrev Level := Bool

end Sys2Proof
end

