-- ==== Sys2Proof/Config.lean ====
section
/-! DEFINITION. What is fixed when the engine is built (the parameters of R4), the input record of a step (R7, R28),
and the one free value: what the outside world drives when no input has been supplied (R6). -/

namespace Sys2Proof

/-- The bit-decision policy, a constant of the built hardware (R4, R103, R104, R107). -/
inductive Policy where
  /-- `ABS`: a bit is 1 if its high phase is at least the Threshold (R103). -/
  | abs
  /-- `RATIO`: a bit is 1 if its high phase is more than twice its low phase (R104). -/
  | ratio
deriving DecidableEq, Repr, Inhabited

/-- The parameters of R4 that a rule reads. No rule writes one. `N_BITS`, `N_BYTES`, `N_ACK`, `N_PAIRS` and `W_PORT`
are fixed by the spec and stand as the lengths and widths of the State's fields. `T_CLK` is read by no rule of the
step and is an argument of `Config.elapsed`. -/
structure Params where
  /-- `W_CNT`: width of the guard counter and of every stored PulseCount. -/
  wCnt    : Nat
  /-- `MAX_ITER`: the guard's bound. -/
  maxIter : Nat
  /-- `POLICY`. -/
  policy  : Policy
  /-- `THR_SKIP`: number of leading pairs left out of the Threshold mean. -/
  thrSkip : Nat
deriving DecidableEq, Repr

/-- The ranges of R4: 1 ≤ `W_CNT` ≤ 32, 1 ≤ `MAX_ITER` ≤ 2^`W_CNT` − 1, `THR_SKIP` ≤ 39. The engine is not defined
outside them (R84, U4). -/
def Params.valid (p : Params) : Bool :=
  decide (1 ≤ p.wCnt) && decide (p.wCnt ≤ 32) && decide (1 ≤ p.maxIter) && decide (p.maxIter < 2 ^ p.wCnt)
    && decide (p.thrSkip ≤ 39)

/-- The parameters `State.reset` carries. `W_CNT` = 16, `POLICY` = `ABS` and `THR_SKIP` = 0 are R4's values.
`MAX_ITER` is `OPEN` in R4: 65535, the largest bound R4 allows at that width, is a DESIGN CHOICE of log entry 2.
No statement rests on it: the parameters are a field of State and every statement holds for every value of it. -/
def Config.params : Params := { wCnt := 16, maxIter := 65535, policy := .abs, thrSkip := 0 }

/-- The input record `I` of a step, sampled at the rising edge of `clk` (R7, R28). -/
structure Inputs where
  /-- Synchronous reset, active high (R170). -/
  rst   : Bool
  /-- Request to begin a read, acted on only while `BUSY` = 0 (R131, R135). -/
  start : Bool
  /-- The level of the sensor's data line. -/
  din   : Level
  /-- Word index for the inspection port (R46). -/
  raddr : BitVec 8
deriving DecidableEq, Repr, Inhabited

/-- FREE VALUE (log entry 1). What the host and the line drive at edge `n` when the State lists no input for that
edge. The line is "an input sequence ... under no law (the model quantifies over every sequence)" (R6). It has no
body, so nothing can be proved of its value. -/
opaque Config.freeInput : Nat → Inputs

/-- The time `n` counts last, in the unit in which `T_CLK` is given: one count is one period `T_CLK` (R86). -/
def Config.elapsed (tClk n : Nat) : Nat := n * tClk

/-- The platform's constraints of R5, in the unit of `tClk`: `MAX_ITER` × `T_CLK` exceeds the longest pulse a healthy
sensor produces and does not exceed the wanted worst-case wait. No rule of the engine reads them. -/
def Params.meetsPlatform (p : Params) (tClk longestPulse worstWait : Nat) : Bool :=
  decide (longestPulse < Config.elapsed tClk p.maxIter) && decide (Config.elapsed tClk p.maxIter ≤ worstWait)

end Sys2Proof
end

