-- ==== Sys2Proof/Syntax.lean ====
section
/-! DEFINITION. The nine micro-operations (R62), one constructor per row of spec/opcode_table.json, and the
pseudo-operations of R72 as lists of them. -/

namespace Sys2Proof

/-- A micro-operation with its operands as the word carries them. `MLO` and `MHI` do not write their `t`: it is
implied (R71). The ranges of the operands are in `WellFormed.lean`. -/
inductive Instr where
  /-- `ACK t,k`: await level `t`, count into `ACKC[k]` (R91). -/
  | ack (t : Level) (k : Idx)
  /-- `MLO i`: measure the low phase of data bit `i` (R92). -/
  | mlo (i : Idx)
  /-- `MHI i`: measure the high phase of data bit `i` (R93). -/
  | mhi (i : Idx)
  /-- `THR`: compute the Threshold (R100). -/
  | thr
  /-- `DEC i`: decide data bit `i` and shift it into `SR` (R102). -/
  | dec (i : Idx)
  /-- `ACC j`: add byte `j` of the Frame into `CSUM` (R110). -/
  | acc (j : Idx)
  /-- `CMP`: compare the accumulator with the received checksum (R111). -/
  | cmp
  /-- `CNV`: convert the validated Frame to the Reading (R120). -/
  | cnv
  /-- `FIN`: end a successful read (R134). -/
  | fin
deriving DecidableEq, Repr

/-- The index operands 0 to `n` − 1 in order. -/
def indices (n : Nat) : List Idx := (List.range n).map (BitVec.ofNat 6)

/-- `ACKSEQ` (R72): the acknowledge phase. -/
def Instr.ackSeq : List Instr := [.ack false 0, .ack true 1, .ack false 2]

/-- `BIT i` (R72): one data bit. -/
def Instr.bit (i : Idx) : List Instr := [.mlo i, .mhi i]

/-- `SAMPLE` (R72): the 40 data bits. -/
def Instr.sample : List Instr := (indices 40).flatMap Instr.bit

/-- `DECODE` (R72): the Threshold and the 40 decisions. -/
def Instr.decodeSeq : List Instr := .thr :: (indices 40).map .dec

/-- `VALIDATE` (R72): the four additions and the comparison. -/
def Instr.validate : List Instr := (indices 4).map .acc ++ [.cmp]

/-- The whole micro-program, `ACKSEQ ; SAMPLE ; DECODE ; VALIDATE ; CNV ; FIN` (R66, R72). -/
def Instr.microProgram : List Instr :=
  Instr.ackSeq ++ Instr.sample ++ Instr.decodeSeq ++ Instr.validate ++ [.cnv, .fin]

end Sys2Proof
end

