-- ==== Sys2Proof/WellFormed.lean ====
section
/-! DEFINITION. The legal range of each operand (R61). -/

namespace Sys2Proof

/-- The ranges of R61: `ACK` 0 to 2; `MLO`, `MHI`, `DEC` 0 to 39; `ACC` 0 to 3. A word whose index is outside is
reserved (R70). -/
def Instr.wf : Instr → Bool
  | .ack _ k => decide (k.toNat ≤ 2)
  | .mlo i   => decide (i.toNat ≤ 39)
  | .mhi i   => decide (i.toNat ≤ 39)
  | .thr     => true
  | .dec i   => decide (i.toNat ≤ 39)
  | .acc j   => decide (j.toNat ≤ 3)
  | .cmp     => true
  | .cnv     => true
  | .fin     => true

/-- A micro-operation with operands in range (R61, R73). -/
abbrev Instr.WellFormed (i : Instr) : Prop := i.wf = true

end Sys2Proof
end

