-- ==== Sys2Proof/Decode.lean ====
section
/-! DEFINITION. The decoder (R60 to R63, R70, R73), the encoder, the opcode map of R62, and the contents of the ROM
(R66). -/

namespace Sys2Proof

/-- Why a word is reserved (R70). -/
inductive Reserved where
  /-- `op` is 0x9 to 0xF. -/
  | opcode
  /-- `z` = 1. -/
  | zBit
  /-- `t` is not the value the opcode demands. -/
  | target
  /-- `idx` is outside the opcode's range. -/
  | index
  /-- `RomRead` of an address above 130 (R45). -/
  | noWord
deriving DecidableEq, Repr

/-- What `decode` answers: a micro-operation, or `RESERVED` with the reason (R73). -/
inductive Decoded where
  | op (i : Instr)
  | reserved (r : Reserved)
deriving DecidableEq, Repr

/-- The field `op`, bits 11 to 8 (R60). -/
def fieldOp (w : MicroWord) : BitVec 4 := w.extractLsb' 8 4

/-- The field `t`, bit 7 (R60). -/
def fieldT (w : MicroWord) : Level := w.getLsbD 7

/-- The field `z`, bit 6 (R60). -/
def fieldZ (w : MicroWord) : Bool := w.getLsbD 6

/-- The field `idx`, bits 5 to 0 (R60). -/
def fieldIdx (w : MicroWord) : Idx := w.extractLsb' 0 6

/-- The micro-operation `i` where the word's `t` is the one its opcode demands and its operands are in range
(R61, R70). -/
def checked (tOk : Bool) (i : Instr) : Decoded :=
  if tOk then (if i.wf then .op i else .reserved .index) else .reserved .target

/-- A micro-operation without operands: `t` = 0 and `idx` = 0 (R61). -/
def checkedPlain (t : Level) (x : Idx) (i : Instr) : Decoded :=
  if t then .reserved .target else (if x = 0 then .op i else .reserved .index)

/-- `decode : word12 -> MicroOp` (R73), total: every word that is not one of the 134 legal words of R63 is reserved. -/
def decode (w : MicroWord) : Decoded :=
  let t := fieldT w
  let x := fieldIdx w
  if fieldZ w then .reserved .zBit
  else match (fieldOp w).toNat with
    | 0 => checked true (.ack t x)
    | 1 => checked t (.mlo x)
    | 2 => checked (!t) (.mhi x)
    | 3 => checkedPlain t x .thr
    | 4 => checked (!t) (.dec x)
    | 5 => checked (!t) (.acc x)
    | 6 => checkedPlain t x .cmp
    | 7 => checkedPlain t x .cnv
    | 8 => checkedPlain t x .fin
    | _ => .reserved .opcode

/-- The micro-operation of a decoded word, where there is one. -/
def Decoded.instr? : Decoded → Option Instr
  | .op i       => some i
  | .reserved _ => none

/-- The bit `t` of R60. -/
def levelBit (t : Level) : BitVec 1 := BitVec.ofBool t

/-- The word `oooo t 0 iiiiii` of R60. -/
def pack (op : BitVec 4) (t : Level) (x : Idx) : MicroWord := op ++ (levelBit t ++ ((0#1) ++ x))

/-- The word of a micro-operation, from the opcode map of R62. -/
def encode : Instr → MicroWord
  | .ack t k => pack 0x0 t k
  | .mlo i   => pack 0x1 true i
  | .mhi i   => pack 0x2 false i
  | .thr     => pack 0x3 false 0
  | .dec i   => pack 0x4 false i
  | .acc j   => pack 0x5 false j
  | .cmp     => pack 0x6 false 0
  | .cnv     => pack 0x7 false 0
  | .fin     => pack 0x8 false 0

/-- One row of the opcode map of R62: a word is this micro-operation's when `w & mask = value` and its operands are
in range. -/
structure OpcodeRow where
  mnemonic : String
  value    : MicroWord
  mask     : MicroWord
deriving DecidableEq, Repr

/-- The row of R62 that a micro-operation belongs to. -/
def Instr.row : Instr → OpcodeRow
  | .ack _ _ => { mnemonic := "ACK", value := 0x000, mask := 0xF7C }
  | .mlo _   => { mnemonic := "MLO", value := 0x180, mask := 0xFC0 }
  | .mhi _   => { mnemonic := "MHI", value := 0x200, mask := 0xFC0 }
  | .thr     => { mnemonic := "THR", value := 0x300, mask := 0xFFF }
  | .dec _   => { mnemonic := "DEC", value := 0x400, mask := 0xFC0 }
  | .acc _   => { mnemonic := "ACC", value := 0x500, mask := 0xFFC }
  | .cmp     => { mnemonic := "CMP", value := 0x600, mask := 0xFFF }
  | .cnv     => { mnemonic := "CNV", value := 0x700, mask := 0xFFF }
  | .fin     => { mnemonic := "FIN", value := 0x800, mask := 0xFFF }

/-- The micro-operation the ROM holds at address `a`, by the formulas of R66; addresses above 130 do not exist (R44)
and are never asked for here. -/
def romOp (a : Nat) : Instr :=
  if a = 0 then .ack false 0
  else if a = 1 then .ack true 1
  else if a = 2 then .ack false 2
  else if a ≤ 82 then
    (if (a - 3) % 2 = 0 then .mlo (BitVec.ofNat 6 ((a - 3) / 2)) else .mhi (BitVec.ofNat 6 ((a - 4) / 2)))
  else if a = 83 then .thr
  else if a ≤ 123 then .dec (BitVec.ofNat 6 (a - 84))
  else if a ≤ 127 then .acc (BitVec.ofNat 6 (a - 124))
  else if a = 128 then .cmp
  else if a = 129 then .cnv
  else .fin

/-- The ROM's word at address `a` (R66). -/
def romWord (a : Nat) : MicroWord := encode (romOp a)

/-- The 131 words of the ROM (R44, R66). -/
def romContents : Vector MicroWord 131 := ⟨((List.range 131).map romWord).toArray, by simp⟩

/-- The 12-bit word that a number of `nbits` bits stands for. A micro-operation word has 12 bits, so a number with a
bit above bit 11 is no word: the reserved word 0xFFF stands for it (log entry 4). -/
def wordOfNat (w : Nat) : MicroWord := if w < 4096 then BitVec.ofNat 12 w else 0xFFF

/-- The instruction the decoder reads from a word numbered as spec/opcode_table.json numbers it. The 12 bits fill one
and a half bytes, whose remaining bits are zero; `nbits` only says how many bits the row has, and no micro-operation
is longer than its one word. -/
def decodeTableWord (_nbits w : Nat) : Option Instr := (decode (wordOfNat w)).instr?

end Sys2Proof
end

