-- ==== Sys2Proof/Machine/State.lean ====
section
/-! DEFINITION. The state of the engine (R10), the parameters and the ROM it is built with, the inputs still to come,
why a step can be refused, and the state after reset (R30). -/

namespace Sys2Proof.Machine

/-- The machine. From `upc` to `temp` it is the state of R10, "exactly the following, and nothing else". The last four
fields are the model's own: what R7 calls "not state" (the parameters, the ROM, the line) is held as data no
micro-operation writes, so that a step is a function of the State alone (log entries 1, 2, 3). -/
structure State where
  /-- `UPC` (R11). -/
  upc    : BitVec 8
  /-- `BUSY` (R12). -/
  busy   : Bool
  /-- `DONE` (R13), also the completion request (R150). -/
  done   : Bool
  /-- `RVALID` (R14). -/
  rvalid : Bool
  /-- `CSOK` (R15). -/
  csok   : Bool
  /-- `ERR` (R16, R141). -/
  err    : BitVec 3
  /-- `REL` (R23, R158). -/
  rel    : Bool
  /-- `CNT`, the Timing Guard's counter (R18, R85). -/
  cnt    : Count
  /-- `ACKC[0..2]` (R24). -/
  ackc   : Vector Count 3
  /-- `LO[0..39]` (R25, R41). -/
  lo     : Vector Count 40
  /-- `HI[0..39]` (R25, R41). -/
  hi     : Vector Count 40
  /-- `THRESH` (R19). -/
  thresh : Count
  /-- `SR` (R17). -/
  sr     : Frame
  /-- `CSUM` (R20). -/
  csum   : Byte
  /-- `HUM` (R21). -/
  hum    : BitVec 16
  /-- `TEMP`, two's complement (R22). -/
  temp   : BitVec 16
  /-- The parameters of R4: constants, written by nothing. -/
  params : Params
  /-- The ROM (R44): read-only, written by nothing. -/
  rom    : Vector MicroWord 131
  /-- The inputs of the coming edges, the next one first (R6, R28). -/
  inputs : List Inputs
  /-- The number of edges so far: the argument of the free input. -/
  tick   : Nat
deriving DecidableEq, Repr

/-- The engine has no fault: "no asynchronous error, no machine-check, no bus error and no illegal-operation error"
(R140). Its two errors end a read and are reported in `ERR`: a step that raises one has a next state. -/
inductive Fault where
deriving DecidableEq, Repr

/-- Why a step has no next state. Each is safe: the model stops where the spec gives no behaviour. -/
inductive Refusal where
  /-- Raised by an arm of `exec` for an instruction that has no meaning yet; safe. No arm raises it. -/
  | notModelled (mnemonic : String)
  /-- Raised by `step` on a fetched word that is `RESERVED`, and by a meaning whose index operand is outside its range
  of R61, which no legal word carries: "a model gives it no step" (R70, U11); safe. -/
  | reservedWord
  /-- Raised by `step` when the parameters are outside the ranges of R4: "the engine is not defined for them"
  (R84, U4); safe. -/
  | parametersOutOfRange
deriving DecidableEq, Repr

/-- The three outcomes of this machine. -/
abbrev Result := Host.Outcome State Fault Refusal

/-- The reset state of an engine built with parameters `p`: every piece of state of R10 is zero (R30). The ROM holds
the micro-program (R66), and no input has been supplied. -/
def State.resetWith (p : Params) : State where
  upc    := 0
  busy   := false
  done   := false
  rvalid := false
  csok   := false
  err    := 0
  rel    := false
  cnt    := 0
  ackc   := Vector.replicate 3 0
  lo     := Vector.replicate 40 0
  hi     := Vector.replicate 40 0
  thresh := 0
  sr     := 0
  csum   := 0
  hum    := 0
  temp   := 0
  params := p
  rom    := romContents
  inputs := []
  tick   := 0

/-- The machine right after reset (R30, R170), with the parameters of `Config.params` (log entry 2). -/
def State.reset : State := State.resetWith Config.params

end Sys2Proof.Machine
end

