-- ==== Sys2Proof/Machine/Operands.lean ====
section
/-! DEFINITION. The operand forms: the sampled inputs, the direct index (R55), the bytes and fields of the Frame
(R17, R64, R65), and the destination of a guard wait (R80). -/

namespace Sys2Proof.Machine

/-- The input record of this step (R7): the next supplied input, or the free value where none is supplied. -/
def State.input (s : State) : Inputs :=
  match s.inputs with
  | i :: _ => i
  | []     => Config.freeInput s.tick

/-- `sample()`: the value of `din` at this step's edge (R8). -/
def State.sample (s : State) : Level := s.input.din

/-- `k` of `ACK`, 0 to 2 (R61). -/
def ackIndex (x : Idx) : Option (Fin 3) := if h : x.toNat < 3 then some ⟨x.toNat, h⟩ else none

/-- `i` of `MLO`, `MHI` and `DEC`, 0 to 39 (R61). -/
def bitIndex (x : Idx) : Option (Fin 40) := if h : x.toNat < 40 then some ⟨x.toNat, h⟩ else none

/-- `j` of `ACC`, 0 to 3 (R61). -/
def accIndex (x : Idx) : Option (Fin 4) := if h : x.toNat < 4 then some ⟨x.toNat, h⟩ else none

/-- Run a meaning on an operand in range; an index outside its range makes the word reserved (R70). -/
def withIndex {α : Type} (x : Option α) (k : α → Result) : Result :=
  match x with
  | some i => k i
  | none   => .refused .reservedWord

/-- `byte(j)` = `SR[39 − 8j : 32 − 8j]`, `j` from 0 to 4 (R8, R17). -/
def frameByte (f : Frame) (j : Nat) : Byte := f.extractLsb' (32 - 8 * j) 8

/-- The humidity field `SR[39:24]` (R64, R121). -/
def frameHumidity (f : Frame) : BitVec 16 := f.extractLsb' 24 16

/-- The temperature magnitude `SR[22:8]`, 15 bits (R65, R122). -/
def frameMagnitude (f : Frame) : BitVec 15 := f.extractLsb' 8 15

/-- The sign flag `SR[23]` (R65, R122). -/
def frameSign (f : Frame) : Bool := f.getLsbD 23

/-- Where a guard wait delivers its count: `dest` of R80. -/
inductive Dest where
  | ackc (k : Fin 3)
  | lo (i : Fin 40)
  | hi (i : Fin 40)
deriving DecidableEq, Repr

/-- The two banks of the PulseTrain store (R40). -/
inductive Bank where
  | lo
  | hi
deriving DecidableEq, Repr

/-- The target level and the destination of an await micro-operation with its index in range: `ACK t,k` awaits `t`
into `ACKC[k]`, `MLO i` awaits 1 into `LO[i]`, `MHI i` awaits 0 into `HI[i]` (R91, R92, R93); nothing for the others. -/
def awaits : Instr → Option (Level × Dest)
  | .ack t k => (ackIndex k).map fun n => (t, .ackc n)
  | .mlo i   => (bitIndex i).map fun n => (true, .lo n)
  | .mhi i   => (bitIndex i).map fun n => (false, .hi n)
  | .thr     => none
  | .dec _   => none
  | .acc _   => none
  | .cmp     => none
  | .cnv     => none
  | .fin     => none

end Sys2Proof.Machine
end

