-- ==== Sys2Proof/Machine/Flags.lean ====
section
/-! DEFINITION. The outcome codes of `ERR` (R141), the comparators of the engine (R139), and the `STATUS` word
(R47). -/

namespace Sys2Proof.Machine

/-- The outcome names of R141. -/
inductive ErrName where
  /-- 0: no error. -/
  | none
  /-- 1: raised by `ACK`, `MLO`, `MHI`. -/
  | timeout
  /-- 2: raised by `CMP`. -/
  | checksum
  /-- 3: reserved for the Handshake Controller; never written by the engine (R160). -/
  | modeRequest
  /-- 4: reserved for the line opening; never written by the engine (R160). -/
  | resourceAcquisition
deriving DecidableEq, Repr

/-- The code of an outcome name in `ERR` (R141). -/
def ErrName.code : ErrName → BitVec 3
  | .none                => 0
  | .timeout             => 1
  | .checksum            => 2
  | .modeRequest         => 3
  | .resourceAcquisition => 4

/-- The level comparator of the guard, `lvl = t` (R80). -/
def levelHit (lvl t : Level) : Bool := lvl == t

/-- The bound comparator of the guard, `CNT + 1 = MAX_ITER`, on the incremented count without wrap (R80). -/
def boundHit (p : Params) (cnt : Count) : Bool := decide (cnt.toNat + 1 = p.maxIter)

/-- `decide` under `ABS`: 1 if `h` ≥ `THRESH`, unsigned (R103). -/
def decideAbs (thresh h : Count) : Bool := decide (thresh.toNat ≤ h.toNat)

/-- `decide` under `RATIO`: 1 if `h` > 2 × `l`, without wrap (R104). -/
def decideRatio (h l : Count) : Bool := decide (2 * l.toNat < h.toNat)

/-- `decide(h, l)` of the built policy (R102, R107). -/
def decideBit (p : Params) (thresh h l : Count) : Bool :=
  match p.policy with
  | .abs   => decideAbs thresh h
  | .ratio => decideRatio h l

/-- The checksum comparator, `CSUM = byte(4)` (R111). -/
def checksumHit (csum : Byte) (f : Frame) : Bool := csum == frameByte f 4

/-- The `STATUS` word: bit 0 `BUSY`, 1 `DONE`, 2 `RVALID`, 3 `CSOK`, 6 to 4 `ERR`, 7 `REL`, 15 to 8 `UPC`, the rest
0 (R47). -/
def statusWord (s : State) : PortWord :=
  (0#16 ++ (s.upc ++ (BitVec.ofBool s.rel ++ (s.err ++ (BitVec.ofBool s.csok ++
    (BitVec.ofBool s.rvalid ++ (BitVec.ofBool s.done ++ BitVec.ofBool s.busy))))))).setWidth 32

end Sys2Proof.Machine
end

