-- ==== Sys2Proof/Machine/Ops.lean ====
section
/-! DEFINITION. The named operations over registers and memories: the PulseTrain store (R42, R43), the ROM and the
fetch (R45), the advance (R132), the guard step (R80), and the two aborts as one termination (R144 to R146).
An abort transfers nowhere and there is no return from one (R144, R148): the recovery is a fresh read, the start
action of `Sequencer.lean`. -/

namespace Sys2Proof.Machine

/-- The value a count register keeps of a number: its low `W_CNT` bits (R8 `trunc`, R10). -/
def countOf (p : Params) (n : Nat) : Count := BitVec.ofNat 32 (n % 2 ^ p.wCnt)

/-- `PtRead(bank, i)` (R42). -/
def ptRead (s : State) (b : Bank) (i : Fin 40) : Count :=
  match b with
  | .lo => s.lo[i.val]
  | .hi => s.hi[i.val]

/-- `PtWrite(bank, i, v)` (R43). -/
def ptWrite (b : Bank) (i : Fin 40) (v : Count) (s : State) : State :=
  match b with
  | .lo => { s with lo := s.lo.set i.val v }
  | .hi => { s with hi := s.hi.set i.val v }

/-- `dest <- v` of R80: an acknowledge register, or a word of the PulseTrain store. -/
def writeDest (d : Dest) (v : Count) (s : State) : State :=
  match d with
  | .ackc k => { s with ackc := s.ackc.set k.val v }
  | .lo i   => ptWrite .lo i v s
  | .hi i   => ptWrite .hi i v s

/-- `decode(RomRead(a))`: the word at ROM address `a`; an address above 130 reads as `RESERVED` (R45). -/
def romDecode (rom : Vector MicroWord 131) (a : Nat) : Decoded :=
  match rom[a]? with
  | some w => decode w
  | none   => .reserved .noWord

/-- The fetch of a step: `RomRead(UPC)`, decoded, with the `UPC` from before the step (R45, R130). -/
def State.fetch (s : State) : Decoded := romDecode s.rom s.upc.toNat

/-- A micro-operation that completes without raising: `UPC <- UPC + 1`, `REL <- 0` (R132). -/
def State.advance (s : State) : State := { s with upc := s.upc + 1, rel := false }

/-- What every termination writes: the outcome, `BUSY <- 0`, `DONE <- 1`, `REL <- 1`; `UPC` stays (R134, R145,
R146). -/
def State.terminate (e : ErrName) (s : State) : State :=
  { s with err := e.code, busy := false, done := true, rel := true }

/-- "partial data already sampled is discarded": `ACKC`, `LO` and `HI` to 0 (R145). -/
def State.discard (s : State) : State :=
  { s with ackc := Vector.replicate 3 0, lo := Vector.replicate 40 0, hi := Vector.replicate 40 0 }

/-- `raise Timeout` (R145). -/
def State.raiseTimeout (s : State) : State := (s.terminate .timeout).discard

/-- `raise Checksum` (R146). -/
def State.raiseChecksum (s : State) : State := s.terminate .checksum

/-- A sample at the target level: the count is delivered, the counter re-armed, the wait complete (R80). -/
def State.deliver (d : Dest) (s : State) : State := { (writeDest d s.cnt s).advance with cnt := 0 }

/-- A sample away from the target level is counted; `UPC` stays (R80). -/
def State.countOne (s : State) : State := { s with cnt := countOf s.params (s.cnt.toNat + 1), rel := false }

/-- `guard_step(t, dest)` (R80). The level comparator is tested first; the bound comparator only on a sample that
differs from the target. -/
def guardStep (t : Level) (d : Dest) (s : State) : State :=
  if levelHit s.sample t then s.deliver d
  else if boundHit s.params s.cnt then s.countOne.raiseTimeout
  else s.countOne

/-- The next edge: the input just sampled is gone, and one more edge has passed (R6). -/
def State.clock (s : State) : State := { s with inputs := s.inputs.tail, tick := s.tick + 1 }

/-- An outcome with the clock moved on where there is a next state. -/
def clocked : Result → Result
  | .next s    => .next s.clock
  | .fault r   => .fault r
  | .refused r => .refused r

/-- The ROM with word `w` in place of the one at the address the next fetch uses, or at address 0 where `UPC` is no
address of the ROM (`withFetchWord` of `Step.lean`; log entry 4). -/
def State.placeWord (w : MicroWord) (s : State) : State :=
  if h : s.upc.toNat < 131 then { s with rom := s.rom.set s.upc.toNat w }
  else { s with upc := 0, rom := s.rom.set 0 w }

/-- The input record for running one placed word: the supplied one without `rst`; with none supplied, all
zeros (log entry 4). -/
def State.placeInput (s : State) : State :=
  match s.inputs with
  | i :: r => { s with inputs := { i with rst := false } :: r }
  | []     => { s with inputs := [{ rst := false, start := false, din := false, raddr := 0 }] }

end Sys2Proof.Machine
end

