-- ==== Sys2Proof/Machine/BitDecoder.lean ====
section
/-! DEFINITION. The Bit Decoder: `THR`, `DEC` (R100 to R107). -/

namespace Sys2Proof.Machine

/-- The exact sum of the low-phase counts that enter the mean, `LO[THR_SKIP..39]` (R100). -/
def lowSum (skip : Nat) (lo : Vector Count 40) : Nat := ((lo.toList.drop skip).map BitVec.toNat).sum

/-- The mean of the low-phase counts, rounded toward zero (R100, R101). -/
def lowMean (skip : Nat) (lo : Vector Count 40) : Nat := lowSum skip lo / (40 - skip)

/-- `THR` (R100). -/
def execThr (s : State) : Result :=
  .next { s with thresh := countOf s.params (lowMean s.params.thrSkip s.lo) }.advance

/-- `{ SR[38:0], b }`: shift left by one, `b` enters at bit 0 (R102). -/
def shiftIn (f : Frame) (b : Bool) : Frame := f.extractLsb' 0 39 ++ BitVec.ofBool b

/-- The Bit of data bit `i` (R102 to R104). -/
def State.bitOf (s : State) (i : Fin 40) : Bool :=
  decideBit s.params s.thresh (ptRead s .hi i) (ptRead s .lo i)

/-- `DEC i` (R102). -/
def execDec (i : Idx) (s : State) : Result :=
  withIndex (bitIndex i) fun n => .next { s with sr := shiftIn s.sr (s.bitOf n) }.advance

end Sys2Proof.Machine
end

