-- ==== Sys2Proof/Machine/Converter.lean ====
section
/-! DEFINITION. The Reading Converter: `CNV` (R120 to R126), and what a consumer computes from the results
(R123, R125, R178). -/

namespace Sys2Proof.Machine

/-- The temperature of a Frame: the magnitude, negated on 16 bits where the sign flag is set (R120, R122). -/
def frameTemp (f : Frame) : BitVec 16 :=
  let mag := (frameMagnitude f).setWidth 16
  if frameSign f then 0 - mag else mag

/-- `CNV` (R120). -/
def execCnv (s : State) : Result :=
  .next { s with hum := frameHumidity s.sr, temp := frameTemp s.sr, rvalid := true }.advance

/-- The decimal digits of a number of tenths: the integer part and the one fractional digit (R125). -/
def tenthsDigits (v : Nat) : Nat × Nat := (v / 10, v % 10)

/-- A Reading: humidity and temperature in tenths (R9, R124). -/
structure Reading where
  hum  : Nat
  temp : Int
deriving DecidableEq, Repr

/-- What a host may take as a Reading: `hum` and `temp` when `done` = 1, `err` = 0 and `rvalid` = 1, all three
(R178). -/
def State.reading? (s : State) : Option Reading :=
  if s.done && s.err == 0 && s.rvalid then some { hum := s.hum.toNat, temp := s.temp.toInt } else none

/-- The sign and the magnitude of the document's floating-point temperature, minus zero kept (R123). -/
def signAndMagnitude (f : Frame) : Bool × Nat := (frameSign f, (frameMagnitude f).toNat)

/-- The digits of the printed temperature: the minus sign, the integer part of the magnitude and its fractional digit
(R125). -/
def tempDigits (f : Frame) : Bool × Nat × Nat := (frameSign f, tenthsDigits (frameMagnitude f).toNat)

end Sys2Proof.Machine
end

