-- ==== Sys2Proof/Machine/Sampler.lean ====
section
/-! DEFINITION. The Pulse Sampler: `ACK`, `MLO`, `MHI` (R90 to R97). -/

namespace Sys2Proof.Machine

/-- `ACK t,k`: `guard_step(t, ACKC[k])` (R91). -/
def execAck (t : Level) (k : Idx) (s : State) : Result :=
  withIndex (ackIndex k) fun n => .next (guardStep t (.ackc n) s)

/-- `MLO i`: `guard_step(1, LO[i])` (R92). -/
def execMlo (i : Idx) (s : State) : Result :=
  withIndex (bitIndex i) fun n => .next (guardStep true (.lo n) s)

/-- `MHI i`: `guard_step(0, HI[i])` (R93). -/
def execMhi (i : Idx) (s : State) : Result :=
  withIndex (bitIndex i) fun n => .next (guardStep false (.hi n) s)

end Sys2Proof.Machine
end

