-- ==== Sys2Proof/Machine/Sequencer.lean ====
section
/-! DEFINITION. The sequencer: `FIN` (R134), the reset step (R170), the start action (R131), the idle step (R133). -/

namespace Sys2Proof.Machine

/-- Every register of R10 to its reset value; the parameters and the ROM "are not affected by reset" (R30, R170), nor
is what comes in from outside. -/
def State.clear (s : State) : State :=
  { State.resetWith s.params with rom := s.rom, inputs := s.inputs, tick := s.tick }

/-- A step with `rst` = 1 (R170). -/
def resetAction (s : State) : State := s.clear

/-- The start action (R131): every register to its reset value, `UPC` = 0, `BUSY` = 1. -/
def startAction (s : State) : State := { s.clear with busy := true }

/-- The idle step: `REL <- 0` and nothing else (R133). -/
def idleAction (s : State) : State := { s with rel := false }

/-- `FIN`: `BUSY <- 0`, `DONE <- 1`, `ERR <- 0`, `REL <- 1`; `UPC` stays (R134). -/
def execFin (s : State) : Result := .next (s.terminate .none)

end Sys2Proof.Machine
end

