-- ==== Sys2Proof/Machine/Validator.lean ====
section
/-! DEFINITION. The Frame Validator: `ACC`, `CMP` (R110 to R114). -/

namespace Sys2Proof.Machine

/-- `ACC j`: `CSUM <- (CSUM + byte(j)) mod 256` (R110). -/
def execAcc (j : Idx) (s : State) : Result :=
  withIndex (accIndex j) fun n => .next { s with csum := s.csum + frameByte s.sr n.val }.advance

/-- `CMP` (R111). -/
def execCmp (s : State) : Result :=
  .next (if checksumHit s.csum s.sr then { s with csok := true }.advance else s.raiseChecksum)

/-- The sum of the first four bytes of a Frame mod 256 (R112). -/
def frameSum (f : Frame) : Byte := frameByte f 0 + frameByte f 1 + frameByte f 2 + frameByte f 3

/-- `valid(F)` (R113): the verdict of the validator as a function of the Frame. -/
def frameValid (f : Frame) : Bool := frameSum f == frameByte f 4

end Sys2Proof.Machine
end

