-- ==== Sys2Proof/Machine/Dispatch.lean ====
section
/-! DEFINITION. The dispatch of R130: one arm per micro-operation, each one call of its meaning. -/

namespace Sys2Proof.Machine

/-- The micro-operation `i` in state `s`, as the `case` of R130 runs it. -/
def exec (i : Instr) (s : State) : Host.Outcome State Fault Refusal :=
  match i with
  | .ack t k => Sys2Proof.Machine.execAck t k s
  | .mlo n => Sys2Proof.Machine.execMlo n s
  | .mhi n => Sys2Proof.Machine.execMhi n s
  | .thr => Sys2Proof.Machine.execThr s
  | .dec n => Sys2Proof.Machine.execDec n s
  | .acc j => Sys2Proof.Machine.execAcc j s
  | .cmp => Sys2Proof.Machine.execCmp s
  | .cnv => Sys2Proof.Machine.execCnv s
  | .fin => Sys2Proof.Machine.execFin s

end Sys2Proof.Machine
end

