-- ==== Sys2Proof/Machine/Step.lean ====
section
/-! DEFINITION. One step at one rising edge of `clk` (R7, R130), and the placing of a word where the next step
fetches. -/

namespace Sys2Proof.Machine

/-- The engine's part of a step: `rst` first, then, if `BUSY` = 0, `start`, then the micro-operation at `ROM[UPC]`
(R7, R130, R147). -/
def edge (s : State) : Host.Outcome State Fault Refusal :=
  if s.input.rst then .next (resetAction s)
  else if s.busy then
    match s.fetch with
    | .op i       => exec i s
    | .reserved _ => .refused .reservedWord
  else if s.input.start then .next (startAction s)
  else .next (idleAction s)

/-- One step: the engine's part, then the next edge's input. Parameters outside R4's ranges are refused (R84, U4). -/
def step (s : State) : Host.Outcome State Fault Refusal :=
  if s.params.valid then clocked (edge s) else .refused .parametersOutOfRange

/-- The state `s` with the word placed at the ROM address the next step fetches, a read in flight and no reset, so
that the next step runs exactly it (log entry 4). -/
def State.withFetchWord (s : State) (_nbits w : Nat) : State :=
  { (s.placeWord (wordOfNat w)).placeInput with busy := true }

end Sys2Proof.Machine
end

