-- ==== Sys2Proof/Machine/Ports.lean ====
section
/-! DEFINITION. What the engine shows: the outputs (R29, R31) and the inspection port (R46, R47). -/

namespace Sys2Proof.Machine

/-- The registered outputs of R29. -/
structure Outputs where
  busy   : Bool
  done   : Bool
  rvalid : Bool
  err    : BitVec 3
  hum    : BitVec 16
  temp   : BitVec 16
  rel    : Bool
deriving DecidableEq, Repr

/-- `out(S)` (R31). -/
def State.out (s : State) : Outputs :=
  { busy := s.busy, done := s.done, rvalid := s.rvalid, err := s.err, hum := s.hum, temp := s.temp, rel := s.rel }

/-- The policy's bit in `CONFIG` (R46). -/
def policyBit : Policy → Nat
  | .abs   => 0
  | .ratio => 1

/-- The `CONFIG` word: bit 0 `POLICY`, bits 13 to 8 `THR_SKIP`, bits 20 to 16 `W_CNT` − 1, the rest 0 (R46). -/
def configWord (p : Params) : PortWord :=
  BitVec.ofNat 32 (policyBit p.policy + (p.thrSkip % 64) * 2 ^ 8 + ((p.wCnt - 1) % 32) * 2 ^ 16)

/-- `ins(S, raddr)`: the map of R46. An unmapped word reads 0. -/
def State.ins (s : State) (raddr : BitVec 8) : PortWord :=
  let a := raddr.toNat
  if a = 0x00 then statusWord s
  else if a = 0x01 then s.hum.setWidth 32
  else if a = 0x02 then s.temp.signExtend 32
  else if a = 0x03 then (s.sr.extractLsb' 32 8).setWidth 32
  else if a = 0x04 then s.sr.extractLsb' 0 32
  else if a = 0x05 then s.csum.setWidth 32
  else if a = 0x06 then s.thresh
  else if a = 0x07 then s.cnt
  else if a = 0x08 then BitVec.ofNat 32 s.params.maxIter
  else if a = 0x09 then configWord s.params
  else if 0x10 ≤ a ∧ a < 0x13 then (s.ackc[a - 0x10]?).getD 0
  else if 0x40 ≤ a ∧ a < 0x68 then (s.lo[a - 0x40]?).getD 0
  else if 0x80 ≤ a ∧ a < 0xA8 then (s.hi[a - 0x80]?).getD 0
  else 0

/-- `rdata`: the word `raddr` selects in this clock period, from the state before the edge (R31, R46). -/
def State.rdata (s : State) : PortWord := s.ins s.input.raddr

end Sys2Proof.Machine
end

