-- ==== Sys2Proof/Machine/Text.lean ====
section
/-! DEFINITION. The textual syntax of a micro-operation and of a line of the ROM listing (R71). -/

namespace Sys2Proof.Machine

/-- A level written as an operand. -/
def levelText (t : Level) : String := if t then "1" else "0"

/-- A micro-operation: its mnemonic in capitals, a space, and its operands in decimal separated by a comma (R71). -/
def instrText : Instr → String
  | .ack t k => "ACK " ++ levelText t ++ "," ++ toString k.toNat
  | .mlo i   => "MLO " ++ toString i.toNat
  | .mhi i   => "MHI " ++ toString i.toNat
  | .thr     => "THR"
  | .dec i   => "DEC " ++ toString i.toNat
  | .acc j   => "ACC " ++ toString j.toNat
  | .cmp     => "CMP"
  | .cnv     => "CNV"
  | .fin     => "FIN"

/-- One hexadecimal digit in capitals. -/
def hexDigit (n : Nat) : Char := if n < 10 then Char.ofNat (48 + n) else Char.ofNat (55 + n)

/-- The low `k` hexadecimal digits of a number, the highest first. -/
def hexDigits : Nat → Nat → List Char
  | 0, _     => []
  | k + 1, n => hexDigit ((n / 16 ^ k) % 16) :: hexDigits k n

/-- A number in hexadecimal with `k` digits, marked `0x` (R8). -/
def hexText (k n : Nat) : String := "0x" ++ String.ofList (hexDigits k n)

/-- A line of the ROM listing, `address: word  mnemonic operands` (R71); nothing for a word that is reserved. -/
def romLine (a : Nat) (w : MicroWord) : Option String :=
  (decode w).instr?.map fun i => hexText 2 a ++ ": " ++ hexText 3 w.toNat ++ "  " ++ instrText i

end Sys2Proof.Machine
end

