-- ==== Sys2Proof/Safety.lean ====
section
/-! DEFINITION. The terms claims use: a sequence of micro-operations without its timing, the whole waits of the
Timing Guard, and the invariant of the engine. -/

namespace Sys2Proof.Machine

/-- The micro-operations of a list one after another, each in the state the one before it left, whatever clock
periods they take: "a claim must not depend on it" (R186, U15). -/
def runOps : List Instr → State → Result
  | [], s => .next s
  | i :: is, s =>
    match exec i s with
    | .next t    => runOps is t
    | .fault r   => .fault r
    | .refused r => .refused r

/-- `n` steps of the engine one after another: the host's `Core.run` on this machine. -/
def stepN : Nat → State → Result
  | 0, s => .next s
  | n + 1, s =>
    match step s with
    | .next t    => stepN n t
    | .fault r   => .fault r
    | .refused r => .refused r

/-- The Bits of data bits 0 to `n` − 1 shifted in one after another from 0, as `DEC` does (R102, R105). -/
def State.decided (s : State) : Nat → Frame
  | 0     => 0
  | n + 1 => shiftIn (s.decided n) (if h : n < 40 then s.bitOf ⟨n, h⟩ else false)

/-- The first `n` bytes of a Frame added one after another from 0, as `ACC` does (R110, R112). -/
def partialSum (f : Frame) : Nat → Byte
  | 0     => 0
  | n + 1 => partialSum f n + frameByte f n

/-- `ACKC`, `LO` and `HI` are all 0: what a discard leaves (R145). -/
def State.TrainClear (s : State) : Prop :=
  (∀ k : Fin 3, s.ackc[k.val] = 0) ∧ (∀ i : Fin 40, s.lo[i.val] = 0) ∧ ∀ i : Fin 40, s.hi[i.val] = 0

/-- Every stored count is one a guard wait can deliver: 0 to `MAX_ITER` − 1 (R81, R97). -/
def State.CountsDelivered (s : State) : Prop :=
  (∀ k : Fin 3, s.ackc[k.val].toNat < s.params.maxIter) ∧ (∀ i : Fin 40, s.lo[i.val].toNat < s.params.maxIter) ∧
    ∀ i : Fin 40, s.hi[i.val].toNat < s.params.maxIter

/-- What the datapath holds when the read stands at the micro-operation at `UPC`, in flight or ended there: nothing
written before its micro-operation, and what that micro-operation computes after it (R97, R105, R112, R113, R121,
R122, R32, R33). -/
structure State.DatapathAt (s : State) (upc : Nat) : Prop where
  /-- `THRESH` is 0 up to `THR`, then the mean of the low phases (R100). -/
  thresh : s.thresh.toNat = if upc ≤ 83 then 0 else lowMean s.params.thrSkip s.lo
  /-- `SR` holds the Bits decided so far (R105). -/
  sr     : s.sr = s.decided (min (upc - 84) 40)
  /-- `CSUM` holds the bytes added so far (R112). -/
  csum   : s.csum = partialSum s.sr (min (upc - 124) 4)
  /-- `CSOK` is 1 exactly after a `CMP` that found equality (R15). -/
  csok   : s.csok = decide (129 ≤ upc)
  /-- `CSOK` = 1 marks a validated Frame (R113). -/
  valid  : 129 ≤ upc → frameValid s.sr = true
  /-- `RVALID` is 1 exactly after `CNV` (R14). -/
  rvalid : s.rvalid = decide (130 ≤ upc)
  /-- `HUM` is 0 up to `CNV`, then the humidity of the Frame (R121). -/
  hum    : s.hum = if 130 ≤ upc then frameHumidity s.sr else 0
  /-- `TEMP` is 0 up to `CNV`, then the temperature of the Frame (R122). -/
  temp   : s.temp = if 130 ≤ upc then frameTemp s.sr else 0

/-- How a terminated read stands (R33): success at 130, a timeout at one of the 83 waits with its partial data
discarded, or a checksum failure at 128 with the rejected Frame kept. -/
def State.Outcome (s : State) : Prop :=
  (s.err = ErrName.none.code ∧ s.upc = 130 ∧ s.cnt = 0) ∨
  (s.err = ErrName.timeout.code ∧ s.upc.toNat ≤ 82 ∧ s.cnt.toNat = s.params.maxIter ∧ s.TrainClear) ∨
  (s.err = ErrName.checksum.code ∧ s.upc = 128 ∧ s.cnt = 0 ∧ frameValid s.sr = false)

/-- The host keeps to its side (R179, R180, U1): it does not raise `start` while a read is in flight, nor in the period
right after a termination, before it has read the results. The engine's step is defined either way (R135); a claim
about a host takes this as a premise. -/
def State.hostObeys (s : State) : Bool := !(s.input.start && (s.busy || s.rel))

/-- The invariant of the engine: it holds after reset and every step keeps it. -/
structure State.Inv (s : State) : Prop where
  /-- The parameters are in range (R4). -/
  params  : s.params.valid = true
  /-- The ROM holds the micro-program (R44, R54, R66). -/
  rom     : s.rom = romContents
  /-- `UPC` takes the values 0 to 130 only (R11). -/
  upc     : s.upc.toNat ≤ 130
  /-- `BUSY` and `DONE` are never both 1 (R13). -/
  flags   : ¬ (s.busy = true ∧ s.done = true)
  /-- `REL` is 1 only in the state a terminating step produced (R23). -/
  rel     : s.rel = true → s.done = true
  /-- The counter: below its bound while a wait is in progress, 0 once the waits are over (R18, R83). -/
  cnt     : s.busy = true → s.cnt.toNat < s.params.maxIter ∧ (83 ≤ s.upc.toNat → s.cnt = 0)
  /-- The stored counts (R97). -/
  counts  : s.CountsDelivered
  /-- The datapath at `UPC`. -/
  data    : s.DatapathAt s.upc.toNat
  /-- No outcome is recorded before termination (R16). -/
  pending : s.done = false → s.err = 0
  /-- Both flags are 0 only between reset and the first start (R13). -/
  fresh   : s.busy = false → s.done = false → s.upc = 0 ∧ s.cnt = 0 ∧ s.TrainClear
  /-- The outcome of a terminated read. -/
  ended   : s.done = true → s.Outcome

end Sys2Proof.Machine
end

