-- ==== Sys2Proof/Certificates/Slice0/Obligations.lean ====
section
/-! DEFINITION. The statements about the model. Each says which rule of the spec it formalises. -/

namespace Sys2Proof.Claims

open Sys2Proof.Machine

/-- The operands of `i` are the ones word `w` carries: `t` in bit 7, the index in bits 5 to 0 (R60, R61). -/
def ReadsOperands (w : MicroWord) : Instr → Prop
  | .ack t k => t = w.getLsbD 7 ∧ k.toNat = w.toNat % 64
  | .mlo i   => i.toNat = w.toNat % 64
  | .mhi i   => i.toNat = w.toNat % 64
  | .thr     => True
  | .dec i   => i.toNat = w.toNat % 64
  | .acc j   => j.toNat = w.toNat % 64
  | .cmp     => True
  | .cnv     => True
  | .fin     => True

/-- The 134 legal words as the list of ranges of R63. -/
def listedWord (n : Nat) : Bool :=
  decide (n ≤ 0x002) || (decide (0x080 ≤ n) && decide (n ≤ 0x082)) || (decide (0x180 ≤ n) && decide (n ≤ 0x1A7)) ||
    (decide (0x200 ≤ n) && decide (n ≤ 0x227)) || decide (n = 0x300) || (decide (0x400 ≤ n) && decide (n ≤ 0x427)) ||
    (decide (0x500 ≤ n) && decide (n ≤ 0x503)) || decide (n = 0x600) || decide (n = 0x700) || decide (n = 0x800)

/-- What one step of an await micro-operation does, all three ways (R80): `i` awaits level `t`, and `stored s` is `s`
with the count delivered. A sample at the target completes the wait whatever the counter holds; a sample away from it
is counted, and the counted sample that reaches the bound is the timeout abort of R145. -/
def GuardOutcome (i : Instr) (t : Level) (stored : State → State) : Prop :=
  ∀ s : State,
    (s.input.din = t → exec i s = .next { stored s with cnt := 0, upc := s.upc + 1, rel := false }) ∧
    (s.input.din ≠ t → s.params.valid = true → s.cnt.toNat + 1 < s.params.maxIter →
      exec i s = .next { s with cnt := s.cnt + 1, rel := false }) ∧
    (s.input.din ≠ t → s.params.valid = true → s.cnt.toNat + 1 = s.params.maxIter →
      exec i s = .next { s with
        cnt := s.cnt + 1, err := 1, busy := false, done := true, rel := true,
        ackc := Vector.replicate 3 0, lo := Vector.replicate 40 0, hi := Vector.replicate 40 0 })

/-- Every low-phase count fits `W_CNT` bits, as a `W_CNT`-bit register's value does (R10, R25). -/
def LowCountsFit (s : State) : Prop := ∀ j : Fin 40, s.lo[j.val].toNat < 2 ^ s.params.wCnt

/-- The sum of `LO[j]` for `j` from `THR_SKIP` to 39 (R100). -/
def lowSumOf (s : State) : Nat := ∑ j : Fin 40, if s.params.thrSkip ≤ j.val then s.lo[j.val].toNat else 0

/-- `sum div n` with `n` = 40 − `THR_SKIP` (R100). -/
def meanOf (s : State) : Nat := lowSumOf s / (40 - s.params.thrSkip)

/-- The Bit of a data bit with high phase `h` and low phase `l` when the Threshold is `th` (R103, R104). -/
def bitFrom (p : Params) (th h l : Nat) : Bool :=
  match p.policy with
  | .abs   => decide (h ≥ th)
  | .ratio => decide (h > 2 * l)

/-- The magnitude of a Frame's temperature, (byte 2 & 0x7F) × 256 + byte 3 (R122). -/
def magnitudeOf (f : Frame) : Nat := f.toNat / 2 ^ 8 % 2 ^ 15

/-- The signed tenths of a Frame's temperature (R122). -/
def tenthsOf (f : Frame) : Int := if f.getLsbD 23 then -(magnitudeOf f : Int) else magnitudeOf f

/-- The number a 0/1 flag is in a word. -/
def bitNat (b : Bool) : Nat := if b then 1 else 0

/-- `THRESH`, `SR` and `CSUM` "as computed" (R33): the mean of the low phases, the Bits of the PulseTrain most
significant first (R105), and the sum of the Frame's first four bytes mod 256 (R112). -/
def AsComputed (s : State) : Prop :=
  s.thresh.toNat = meanOf s ∧
  (∀ n : Fin 40, s.sr.getLsbD (39 - n.val) =
    bitFrom s.params (meanOf s) s.hi[n.val].toNat s.lo[n.val].toNat) ∧
  s.csum.toNat = ((frameByte s.sr 0).toNat + (frameByte s.sr 1).toNat + (frameByte s.sr 2).toNat +
    (frameByte s.sr 3).toNat) % 256

/-- The level the guard wait at ROM address `a` waits for: 0, 1, 0, then 1, 0 for each data bit (R94). -/
def waitLevel (a : Nat) : Level := decide (a % 2 = 1)

/-- The levels of the line during the first `n` waits of a read when the wait at ROM address `a` is to count `c a`:
`c a` samples away from its level and one at it (R81, R87). -/
def lineOf (c : Nat → Nat) (n : Nat) : List Level :=
  (List.range n).flatMap fun a => List.replicate (c a) (!waitLevel a) ++ [waitLevel a]

/-- The mean of the low-phase counts from `THR_SKIP` on, when the wait at ROM address `a` counted `c a` (R92, R100). -/
def meanOfLine (p : Params) (c : Nat → Nat) : Nat :=
  (∑ j : Fin 40, if p.thrSkip ≤ j.val then c (3 + 2 * j.val) else 0) / (40 - p.thrSkip)

/-- The checksum of a Frame is the sum of its first four bytes mod 256 (R112, R113). -/
def ChecksumRight (f : Frame) : Prop :=
  ((frameByte f 0).toNat + (frameByte f 1).toNat + (frameByte f 2).toNat + (frameByte f 3).toNat) % 256 =
    (frameByte f 4).toNat

/-- The state `t` after `i` is what a termination with code `e` leaves in the flags (R134, R145, R146). -/
def EndedWith (e : BitVec 3) (t : State) : Prop := t.err = e ∧ t.busy = false ∧ t.done = true ∧ t.rel = true

/-- `i` took the timeout abort, which only an await can (R142, R145). -/
def TimedOut (i : Instr) (t : State) : Prop := (awaits i).isSome ∧ EndedWith 1 t

/-- `i` ended the read: an await by the timeout abort, `CMP` by the checksum abort, or `FIN` (R140, R134). -/
def EndedRead (i : Instr) (t : State) : Prop :=
  TimedOut i t ∨ (i = .cmp ∧ EndedWith 2 t) ∨ (i = .fin ∧ EndedWith 0 t)

end Sys2Proof.Claims

open Sys2Proof Sys2Proof.Machine Sys2Proof.Claims

/-! ### Encodings -/

/-- R73: `encode` and `decode` are inverse on the legal words, and every other word is `RESERVED`. -/
def Obligations.DecodeAndEncodeAreInverse : Prop :=
  (∀ i : Instr, i.WellFormed → decode (encode i) = .op i) ∧
  (∀ (w : MicroWord) (i : Instr), decode w = .op i → i.WellFormed ∧ encode i = w) ∧
  (∀ w : MicroWord, (∀ i : Instr, i.WellFormed → encode i ≠ w) → ∃ r, decode w = .reserved r)

/-- R62: a word is a micro-operation's when `w & mask = match` and its `idx` and `t` are in the legal range. -/
def Obligations.DecodeFollowsTheOpcodeMap : Prop :=
  ∀ (w : MicroWord) (i : Instr),
    decode w = .op i ↔ w &&& i.row.mask = i.row.value ∧ i.WellFormed ∧ ReadsOperands w i

/-- R63: the legal words are the listed ones, 134 of them, with the listed words for each micro-operation, and the
three legal words the ROM, 131 different words, does not use. -/
def Obligations.LegalWordsAreTheListedOnes : Prop :=
  (∀ w : MicroWord, (decode w).instr?.isSome = listedWord w.toNat) ∧
  ((List.range 4096).filter listedWord).length = 134 ∧
  (∀ k : Fin 3, decode (BitVec.ofNat 12 k.val) = .op (.ack false (BitVec.ofNat 6 k.val)) ∧
    decode (BitVec.ofNat 12 (0x080 + k.val)) = .op (.ack true (BitVec.ofNat 6 k.val))) ∧
  (∀ i : Fin 40, decode (BitVec.ofNat 12 (0x180 + i.val)) = .op (.mlo (BitVec.ofNat 6 i.val)) ∧
    decode (BitVec.ofNat 12 (0x200 + i.val)) = .op (.mhi (BitVec.ofNat 6 i.val)) ∧
    decode (BitVec.ofNat 12 (0x400 + i.val)) = .op (.dec (BitVec.ofNat 6 i.val))) ∧
  (∀ j : Fin 4, decode (BitVec.ofNat 12 (0x500 + j.val)) = .op (.acc (BitVec.ofNat 6 j.val))) ∧
  decode 0x300 = .op .thr ∧ decode 0x600 = .op .cmp ∧ decode 0x700 = .op .cnv ∧ decode 0x800 = .op .fin ∧
  romContents.toList.Nodup ∧
  (∀ a : Fin 131, romContents[a.val] ≠ 0x001 ∧ romContents[a.val] ≠ 0x080 ∧ romContents[a.val] ≠ 0x082)

/-- R62, R70: words of the spec, legal and reserved, decode as the spec says. A sanity statement. -/
def Obligations.WordsOfTheSpecDecode : Prop :=
  decode 0x081 = .op (.ack true 1) ∧ decode 0x1A7 = .op (.mlo 39) ∧ decode 0x227 = .op (.mhi 39) ∧
  decode 0x300 = .op .thr ∧ decode 0x427 = .op (.dec 39) ∧ decode 0x503 = .op (.acc 3) ∧
  decode 0x600 = .op .cmp ∧ decode 0x700 = .op .cnv ∧ decode 0x800 = .op .fin ∧
  decode 0x100 = .reserved .target ∧ decode 0x1A8 = .reserved .index ∧ decode 0x003 = .reserved .index ∧
  decode 0x301 = .reserved .index ∧ decode 0x040 = .reserved .zBit ∧ decode 0x900 = .reserved .opcode

/-- R66: the ROM holds the fixed micro-program, address by address. -/
def Obligations.RomHoldsTheMicroProgram : Prop :=
  decode romContents[0] = .op (.ack false 0) ∧ decode romContents[1] = .op (.ack true 1) ∧
  decode romContents[2] = .op (.ack false 2) ∧
  (∀ i : Fin 40, decode romContents[3 + 2 * i.val] = .op (.mlo (BitVec.ofNat 6 i.val)) ∧
    decode romContents[4 + 2 * i.val] = .op (.mhi (BitVec.ofNat 6 i.val)) ∧
    decode romContents[84 + i.val] = .op (.dec (BitVec.ofNat 6 i.val))) ∧
  decode romContents[83] = .op .thr ∧
  (∀ j : Fin 4, decode romContents[124 + j.val] = .op (.acc (BitVec.ofNat 6 j.val))) ∧
  decode romContents[128] = .op .cmp ∧ decode romContents[129] = .op .cnv ∧ decode romContents[130] = .op .fin

/-- R72: with the pseudo-operations the ROM reads `ACKSEQ ; SAMPLE ; DECODE ; VALIDATE ; CNV ; FIN`. -/
def Obligations.PseudoOperationsSpellTheRom : Prop :=
  Instr.ackSeq = [.ack false 0, .ack true 1, .ack false 2] ∧
  (∀ i : Idx, Instr.bit i = [.mlo i, .mhi i]) ∧
  Instr.microProgram = Instr.ackSeq ++ Instr.sample ++ Instr.decodeSeq ++ Instr.validate ++ [.cnv, .fin] ∧
  (Instr.ackSeq.map encode = romContents.toList.take 3) ∧
  (Instr.sample.map encode = (romContents.toList.drop 3).take 80) ∧
  (Instr.decodeSeq.map encode = (romContents.toList.drop 83).take 41) ∧
  (Instr.validate.map encode = (romContents.toList.drop 124).take 5) ∧
  Instr.microProgram.map encode = romContents.toList

/-- R45, R70, U11: an address above 130 reads as `RESERVED`, and a step that fetches a reserved word is refused by
name. The third clause is the model's own choice (log entry 8): `exec` refuses an operand outside its range under the
same name, although no word decodes to one. -/
def Obligations.ReservedWordsHaveNoStep : Prop :=
  (∀ (rom : Vector MicroWord 131) (a : Nat), 130 < a → romDecode rom a = .reserved .noWord) ∧
  (∀ s : State, s.params.valid = true → s.input.rst = false → s.busy = true → (∀ i, s.fetch ≠ .op i) →
    step s = .refused .reservedWord) ∧
  (∀ (i : Instr) (s : State), ¬ i.WellFormed → exec i s = .refused .reservedWord)

/-! ### The step -/

/-- R130: with a read in flight and no reset, the fetched micro-operation has a next state, and the step is that state
with the input just sampled gone and the edge counted. -/
def Obligations.StepRunsTheFetchedOperation : Prop :=
  ∀ (s : State) (i : Instr), s.params.valid = true → s.input.rst = false → s.busy = true → s.fetch = .op i →
    ∃ t, exec i s = .next t ∧ step s = .next { t with inputs := s.inputs.tail, tick := s.tick + 1 }

/-- The placed word is the one the next step runs (the model's own `withFetchWord`, log entry 4). -/
def Obligations.PlacedWordIsRunByTheNextStep : Prop :=
  ∀ (s : State) (nbits w : Nat) (i : Instr), s.params.valid = true → decodeTableWord nbits w = some i →
    (s.withFetchWord nbits w).fetch = .op i ∧
    step (s.withFetchWord nbits w) = clocked (exec i (s.withFetchWord nbits w))

/-- R30: after a step with `rst` = 1 every piece of state is zero, whatever it was before. -/
def Obligations.ResetStepZeroesEveryRegister : Prop :=
  ∀ s : State, s.params.valid = true → s.input.rst = true → ∃ t, step s = .next t ∧
    t.upc = 0 ∧ t.busy = false ∧ t.done = false ∧ t.rvalid = false ∧ t.csok = false ∧ t.rel = false ∧ t.err = 0 ∧
    t.cnt = 0 ∧ (∀ k : Fin 3, t.ackc[k.val] = 0) ∧ (∀ i : Fin 40, t.lo[i.val] = 0 ∧ t.hi[i.val] = 0) ∧
    t.thresh = 0 ∧ t.sr = 0 ∧ t.csum = 0 ∧ t.hum = 0 ∧ t.temp = 0

/-- R170: in any step with `rst` = 1 the next state is the reset state, whatever the state, `start` and `din` are; the
parameters and the ROM are not affected. -/
def Obligations.ResetHasTheHighestPriority : Prop :=
  ∀ s : State, s.params.valid = true → s.input.rst = true →
    step s = .next { State.resetWith s.params with rom := s.rom, inputs := s.inputs.tail, tick := s.tick + 1 }

/-- R131: the start action. -/
def Obligations.StartActionBeginsAFreshRead : Prop :=
  ∀ s : State, s.params.valid = true → s.input.rst = false → s.busy = false → s.input.start = true →
    step s = .next { s with
      upc := 0, busy := true, done := false, rvalid := false, csok := false, err := 0, rel := false,
      cnt := 0, ackc := Vector.replicate 3 0, lo := Vector.replicate 40 0, hi := Vector.replicate 40 0,
      thresh := 0, sr := 0, csum := 0, hum := 0, temp := 0, inputs := s.inputs.tail, tick := s.tick + 1 }

/-- R133: the idle step writes `REL <- 0` and nothing else. -/
def Obligations.IdleStepWritesOnlyRel : Prop :=
  ∀ s : State, s.params.valid = true → s.input.rst = false → s.busy = false → s.input.start = false →
    step s = .next { s with rel := false, inputs := s.inputs.tail, tick := s.tick + 1 }

/-- R133, R52: with no reset and no start the outcome of the last read stays readable for as long as the host likes;
after any number of idle steps every register but `REL` is what it was. -/
def Obligations.OutcomeStaysReadableWhileIdle : Prop :=
  ∀ (s : State) (quiet rest : List Inputs), s.params.valid = true → s.busy = false → s.inputs = quiet ++ rest →
    (∀ x ∈ quiet, x.rst = false ∧ x.start = false) → quiet ≠ [] →
    stepN quiet.length s = .next { s with rel := false, inputs := rest, tick := s.tick + quiet.length }

/-- R135: while `BUSY` = 1 the step is the same whatever `start` is. -/
def Obligations.StartIsIgnoredWhileBusy : Prop :=
  ∀ (s : State) (x : Inputs) (rest : List Inputs) (b : Bool), s.busy = true →
    step { s with inputs := x :: rest } = step { s with inputs := { x with start := b } :: rest }

/-- R130: `I.din` is read only by the three await micro-operations. Every other step is the same whatever `din` is. -/
def Obligations.OnlyAwaitsReadTheLine : Prop :=
  ∀ (s : State) (x : Inputs) (rest : List Inputs) (d : Level),
    (s.busy = true → ∀ i, s.fetch = .op i → awaits i = none) →
    step { s with inputs := x :: rest } = step { s with inputs := { x with din := d } :: rest }

/-- What R32 says and the spec derives from R30 and R131: nothing of an earlier read survives a start: two idle
engines that differ in anything they hold make the same step. -/
def Obligations.NothingSurvivesAStart : Prop :=
  ∀ s s' : State, s.params = s'.params → s.rom = s'.rom → s.inputs = s'.inputs → s.tick = s'.tick →
    s.busy = false → s'.busy = false → s.input.start = true → step s = step s'

/-- The parameters and the ROM are constants (R4, R44), and every step consumes one input (R6). -/
def Obligations.ConstantsAreNeverWritten : Prop :=
  ∀ s t : State, step s = .next t →
    t.params = s.params ∧ t.rom = s.rom ∧ t.inputs = s.inputs.tail ∧ t.tick = s.tick + 1

/-- R132: `UPC` changes only by + 1 on completion, and to 0 by reset and by the start action. -/
def Obligations.UpcMovesOnlyByOneOrToZero : Prop :=
  ∀ s t : State, step s = .next t →
    t.upc = s.upc ∨
    (t.upc = s.upc + 1 ∧ s.busy = true ∧ t.busy = true ∧ t.rel = false ∧ s.input.rst = false) ∨
    (t.upc = 0 ∧ (s.input.rst = true ∨ (s.busy = false ∧ s.input.start = true)))

/-- R23: `REL` is 1 in the state a terminating step produced and in no other, so for exactly one period. -/
def Obligations.RelIsAOnePeriodPulse : Prop :=
  (∀ s t : State, step s = .next t →
    (t.rel = true ↔ s.input.rst = false ∧ s.busy = true ∧ t.busy = false ∧ t.done = true)) ∧
  (∀ s t u : State, step s = .next t → step t = .next u → t.rel = true → u.rel = false)

/-- R13: no step makes `BUSY` and `DONE` both 1. -/
def Obligations.BusyAndDoneStayExclusive : Prop :=
  ∀ s t : State, step s = .next t → ¬ (s.busy = true ∧ s.done = true) → ¬ (t.busy = true ∧ t.done = true)

/-- R16, U12: the engine never writes `ERR` = 3 to 7. -/
def Obligations.ReservedErrorCodesAreNeverWritten : Prop :=
  ∀ s t : State, step s = .next t → t.err = s.err ∨ t.err = 0 ∨ t.err = 1 ∨ t.err = 2

/-! ### The micro-operations -/

/-- R91: `ACK t,k` is the word `0x000 | t << 7 | k` and does `guard_step(t, ACKC[k])`. -/
def Obligations.AckAwaitsIntoAckc : Prop :=
  (∀ (t : Level) (k : Fin 3),
    (encode (.ack t (BitVec.ofNat 6 k.val))).toNat = bitNat t * 2 ^ 7 + k.val ∧
    GuardOutcome (.ack t (BitVec.ofNat 6 k.val)) t (fun s => { s with ackc := s.ackc.set k.val s.cnt })) ∧
  romContents[0] = encode (.ack false 0) ∧ romContents[1] = encode (.ack true 1) ∧
  romContents[2] = encode (.ack false 2)

/-- R92: `MLO i` is the word `0x180 | i` at ROM address 3 + 2`i` and does `guard_step(1, LO[i])`. -/
def Obligations.MloAwaitsHighIntoLo : Prop :=
  ∀ i : Fin 40,
    (encode (.mlo (BitVec.ofNat 6 i.val))).toNat = 0x180 + i.val ∧
    romContents[3 + 2 * i.val] = encode (.mlo (BitVec.ofNat 6 i.val)) ∧
    GuardOutcome (.mlo (BitVec.ofNat 6 i.val)) true (fun s => { s with lo := s.lo.set i.val s.cnt })

/-- R93: `MHI i` is the word `0x200 | i` at ROM address 4 + 2`i` and does `guard_step(0, HI[i])`. -/
def Obligations.MhiAwaitsLowIntoHi : Prop :=
  ∀ i : Fin 40,
    (encode (.mhi (BitVec.ofNat 6 i.val))).toNat = 0x200 + i.val ∧
    romContents[4 + 2 * i.val] = encode (.mhi (BitVec.ofNat 6 i.val)) ∧
    GuardOutcome (.mhi (BitVec.ofNat 6 i.val)) false (fun s => { s with hi := s.hi.set i.val s.cnt })

/-- R100: `THR`, the word 0x300 at ROM address 83, writes the mean of `LO[THR_SKIP..39]`, rounded toward zero, under
either policy, and nothing else but the advance. -/
def Obligations.ThrWritesTheMeanLowPhase : Prop :=
  encode .thr = 0x300 ∧ romContents[83] = encode .thr ∧
  ∀ s : State, s.params.valid = true → LowCountsFit s →
    ∃ v : Count, v.toNat = meanOf s ∧ v.toNat < 2 ^ s.params.wCnt ∧
      exec .thr s = .next { s with thresh := v, upc := s.upc + 1, rel := false }

/-- R100: the mean lies between the least and the largest low phase that enters it. -/
def Obligations.ThresholdLiesBetweenTheLowPhases : Prop :=
  ∀ s t : State, s.params.valid = true → LowCountsFit s → exec .thr s = .next t → ∀ c : Nat,
    ((∀ j : Fin 40, s.params.thrSkip ≤ j.val → s.lo[j.val].toNat ≤ c) → t.thresh.toNat ≤ c) ∧
    ((∀ j : Fin 40, s.params.thrSkip ≤ j.val → c ≤ s.lo[j.val].toNat) → c ≤ t.thresh.toNat)

/-- R102, with `decide` of R103 and R104: `DEC i`, the word `0x400 | i` at ROM address 84 + `i`, shifts the decided
Bit into `SR` at bit 0, the bit leaving `SR[39]` dropped; in a read the dropped bit is always 0. -/
def Obligations.DecShiftsInTheDecidedBit : Prop :=
  (∀ (s : State) (n : Idx), s.Inv → s.busy = true → s.fetch = .op (.dec n) → s.sr.getLsbD 39 = false) ∧
  ∀ (i : Fin 40) (s : State),
    (encode (.dec (BitVec.ofNat 6 i.val))).toNat = 0x400 + i.val ∧
    romContents[84 + i.val] = encode (.dec (BitVec.ofNat 6 i.val)) ∧
    exec (.dec (BitVec.ofNat 6 i.val)) s = .next { s with
      sr := BitVec.ofNat 40 (2 * s.sr.toNat +
        bitNat (bitFrom s.params s.thresh.toNat s.hi[i.val].toNat s.lo[i.val].toNat)),
      upc := s.upc + 1, rel := false }

/-- R104: under `RATIO` a bit is 1 exactly when its high phase exceeds twice its low phase, that is, when the quotient
of the two exceeds 2; with a low phase of 0 it is 1
exactly when the high phase is not 0. -/
def Obligations.RatioPolicyComparesTheQuotient : Prop :=
  ∀ (i : Fin 40) (s t : State), s.params.policy = .ratio → exec (.dec (BitVec.ofNat 6 i.val)) s = .next t →
    (t.sr.getLsbD 0 = true ↔ s.hi[i.val].toNat > 2 * s.lo[i.val].toNat) ∧
    (s.lo[i.val] ≠ 0 → (t.sr.getLsbD 0 = true ↔ (2 : ℚ) < (s.hi[i.val].toNat : ℚ) / (s.lo[i.val].toNat : ℚ))) ∧
    (s.lo[i.val] = 0 → (t.sr.getLsbD 0 = true ↔ s.hi[i.val] ≠ 0))

/-- R110: `ACC j`, the word `0x500 | j` at ROM address 124 + `j`, adds byte `j` of the Frame into `CSUM` mod 256. -/
def Obligations.AccAddsTheByteModulo256 : Prop :=
  ∀ (j : Fin 4) (s : State),
    (encode (.acc (BitVec.ofNat 6 j.val))).toNat = 0x500 + j.val ∧
    romContents[124 + j.val] = encode (.acc (BitVec.ofNat 6 j.val)) ∧
    exec (.acc (BitVec.ofNat 6 j.val)) s = .next { s with
      csum := BitVec.ofNat 8 ((s.csum.toNat + s.sr.toNat / 2 ^ (32 - 8 * j.val) % 256) % 256),
      upc := s.upc + 1, rel := false }

/-- R111: `CMP`, the word 0x600 at ROM address 128, sets `CSOK` on equality and otherwise takes the checksum abort of
R146; in a read that abort leaves `UPC` = 128 and `CSOK` = 0. -/
def Obligations.CmpComparesWithTheLastByte : Prop :=
  encode .cmp = 0x600 ∧ romContents[128] = encode .cmp ∧
  (∀ s : State, s.Inv → s.busy = true → s.fetch = .op .cmp → s.upc = 128 ∧ s.csok = false) ∧
  ∀ s : State,
    (s.csum.toNat = s.sr.toNat % 256 → exec .cmp s = .next { s with csok := true, upc := s.upc + 1, rel := false }) ∧
    (s.csum.toNat ≠ s.sr.toNat % 256 →
      exec .cmp s = .next { s with err := 2, busy := false, done := true, rel := true })

/-- R120: `CNV`, the word 0x700 at ROM address 129, writes the Reading of the Frame and `RVALID`; in a read it executes
only on a validated Frame. -/
def Obligations.CnvConvertsTheFrame : Prop :=
  encode .cnv = 0x700 ∧ romContents[129] = encode .cnv ∧
  (∀ s : State, s.Inv → s.busy = true → s.fetch = .op .cnv → s.csok = true ∧ frameValid s.sr = true) ∧
  ∀ s : State, exec .cnv s = .next { s with
    hum := BitVec.ofNat 16 (s.sr.toNat / 2 ^ 24), temp := BitVec.ofInt 16 (tenthsOf s.sr), rvalid := true,
    upc := s.upc + 1, rel := false }

/-- R121, R122: read as numbers, `HUM` is byte 0 × 256 + byte 1 and `TEMP` is plus or minus the magnitude; the pattern
0x8000 never occurs, and the inspection port shows the same number on 32 bits. -/
def Obligations.ReadingIsInSignedTenths : Prop :=
  ∀ s t : State, exec .cnv s = .next t →
    t.hum.toNat = (frameByte s.sr 0).toNat * 256 + (frameByte s.sr 1).toNat ∧
    magnitudeOf s.sr = (frameByte s.sr 2).toNat % 128 * 256 + (frameByte s.sr 3).toNat ∧
    t.temp.toInt = tenthsOf s.sr ∧ (t.ins 0x02).toInt = tenthsOf s.sr ∧ -32767 ≤ t.temp.toInt ∧ t.temp.toInt ≤ 32767 ∧ t.temp ≠ 0x8000

/-- R134: `FIN`, the word 0x800 at ROM address 130, ends a read; in a read it executes only after `CNV`, with the
Reading in `HUM` and `TEMP`. -/
def Obligations.FinEndsASuccessfulRead : Prop :=
  encode .fin = 0x800 ∧ romContents[130] = encode .fin ∧
  (∀ s : State, s.Inv → s.busy = true → s.fetch = .op .fin →
    s.upc = 130 ∧ s.rvalid = true ∧ s.csok = true ∧ s.hum.toNat = s.sr.toNat / 2 ^ 24 ∧
      s.temp.toInt = tenthsOf s.sr) ∧
  ∀ s : State, exec .fin s = .next { s with busy := false, done := true, err := 0, rel := true }

/-- Every micro-operation with operands in range has a next state in every state: no ordinary data ends a run
(R7, R126). -/
def Obligations.EveryWellFormedOperationHasAStep : Prop :=
  ∀ (i : Instr) (s : State), i.WellFormed → ∃ t, exec i s = .next t

/-- The writers of the sixteen registers of R10, among the micro-operations: a register, or one word of `ACKC`, `LO` or
`HI`, that `exec` changes is changed by the micro-operation R11 to R25 and R132 name. `BUSY`, `DONE` and `ERR` are
changed only by one that ends the read; `REL` is 1 only after one; `UPC` is changed only by a completion without a
raise, to `UPC` + 1, and never by `FIN`; a word of `ACKC`, `LO` or `HI` only by the `ACK`, `MLO` or `MHI` whose index it
is, or by the timeout abort, which writes it 0. -/
def Obligations.EachRegisterHasItsWriter : Prop :=
  ∀ (i : Instr) (s t : State), exec i s = .next t →
    (t.upc ≠ s.upc → t.upc = s.upc + 1 ∧ t.rel = false ∧ i ≠ .fin) ∧
    (t.busy ≠ s.busy → EndedRead i t) ∧ (t.done ≠ s.done → EndedRead i t) ∧ (t.err ≠ s.err → EndedRead i t) ∧
    (t.rel = true → EndedRead i t) ∧
    (t.rvalid ≠ s.rvalid → i = .cnv) ∧ (t.csok ≠ s.csok → i = .cmp) ∧ (t.cnt ≠ s.cnt → (awaits i).isSome) ∧
    (∀ k : Fin 3, t.ackc[k.val] ≠ s.ackc[k.val] →
      (∃ l, i = .ack l (BitVec.ofNat 6 k.val)) ∨ (TimedOut i t ∧ t.ackc[k.val] = 0)) ∧
    (∀ j : Fin 40, t.lo[j.val] ≠ s.lo[j.val] →
      i = .mlo (BitVec.ofNat 6 j.val) ∨ (TimedOut i t ∧ t.lo[j.val] = 0)) ∧
    (∀ j : Fin 40, t.hi[j.val] ≠ s.hi[j.val] →
      i = .mhi (BitVec.ofNat 6 j.val) ∨ (TimedOut i t ∧ t.hi[j.val] = 0)) ∧
    (t.thresh ≠ s.thresh → i = .thr) ∧ (t.sr ≠ s.sr → ∃ n, i = .dec n) ∧ (t.csum ≠ s.csum → ∃ j, i = .acc j) ∧
    (t.hum ≠ s.hum → i = .cnv) ∧ (t.temp ≠ s.temp → i = .cnv)

/-- R140, R142, R143: a micro-operation that sets `DONE` is a guard wait whose differing sample reached the bound
(`ERR` = 1), a `CMP` that found inequality (`ERR` = 2), or `FIN` (`ERR` = 0), and nothing else. -/
def Obligations.EveryTerminationHasItsCause : Prop :=
  ∀ (i : Instr) (s t : State), exec i s = .next t → s.done = false → t.done = true →
    (t.err = 1 ∧ ∃ l d, awaits i = some (l, d) ∧ s.input.din ≠ l ∧ s.cnt.toNat + 1 = s.params.maxIter) ∨
    (t.err = 2 ∧ i = .cmp ∧ s.csum ≠ frameByte s.sr 4) ∨
    (t.err = 0 ∧ i = .fin)

/-! ### Memories and ports -/

/-- R42, R43: a read of the PulseTrain store returns the value last written to that word of that bank, and a write
changes no other word and no other register. -/
def Obligations.PulseTrainReadsTheLastWrite : Prop :=
  ∀ (b c : Bank) (i j : Fin 40) (v : Count) (s : State),
    ptRead (ptWrite b i v s) c j = (if b = c ∧ i = j then v else ptRead s c j) ∧
    { ptWrite b i v s with lo := s.lo, hi := s.hi } = s

/-- R31: every output but `rdata` is a register; `rdata` is the word `raddr` selects. R46: the map of that word. -/
def Obligations.OutputsAndPortFollowTheirMaps : Prop :=
  ∀ s : State,
    s.out = { busy := s.busy, done := s.done, rvalid := s.rvalid, err := s.err, hum := s.hum, temp := s.temp,
              rel := s.rel } ∧
    s.rdata = s.ins s.input.raddr ∧
    s.ins 0x00 = statusWord s ∧ (s.ins 0x01).toNat = s.hum.toNat ∧ (s.ins 0x02).toInt = s.temp.toInt ∧
    (s.ins 0x03).toNat = s.sr.toNat / 2 ^ 32 ∧ (s.ins 0x04).toNat = s.sr.toNat % 2 ^ 32 ∧
    (s.ins 0x05).toNat = s.csum.toNat ∧ s.ins 0x06 = s.thresh ∧ s.ins 0x07 = s.cnt ∧
    (s.params.valid = true → (s.ins 0x08).toNat = s.params.maxIter ∧
      (s.ins 0x09).toNat = bitNat (decide (s.params.policy = .ratio)) + s.params.thrSkip * 2 ^ 8 +
        (s.params.wCnt - 1) * 2 ^ 16) ∧
    (∀ k : Fin 3, s.ins (BitVec.ofNat 8 (0x10 + k.val)) = s.ackc[k.val]) ∧
    (∀ i : Fin 40, s.ins (BitVec.ofNat 8 (0x40 + i.val)) = ptRead s .lo i ∧
      s.ins (BitVec.ofNat 8 (0x80 + i.val)) = ptRead s .hi i) ∧
    (∀ a : BitVec 8, 0x0A ≤ a.toNat ∧ a.toNat ≤ 0x0F ∨ 0x13 ≤ a.toNat ∧ a.toNat ≤ 0x3F ∨
      0x68 ≤ a.toNat ∧ a.toNat ≤ 0x7F ∨ 0xA8 ≤ a.toNat → s.ins a = 0)

/-- R47: `rdata` is `ins` at `raddr`, the word `STATUS` has its fields, and a read of the port, on any address at any
time, changes no state. -/
def Obligations.PortReadsShowStatusAndChangeNothing : Prop :=
  (∀ s : State, s.rdata = s.ins s.input.raddr ∧ (s.ins 0x00).toNat =
    bitNat s.busy + 2 * bitNat s.done + 4 * bitNat s.rvalid + 8 * bitNat s.csok + 16 * s.err.toNat +
      128 * bitNat s.rel + 256 * s.upc.toNat) ∧
  ∀ (s : State) (x : Inputs) (rest : List Inputs) (a : BitVec 8),
    step { s with inputs := x :: rest } = step { s with inputs := { x with raddr := a } :: rest }

/-! ### Sequences and whole waits -/

/-- The checksum property of the document (T1), which the spec derives from R110 and R111 (R112, R113): from `CSUM` =
0 the steps `ACC 0` to `ACC 3`, `CMP` accept a Frame exactly when its last byte is the sum of the first four mod 256,
and reject it with `ERR` = 2 otherwise. -/
def Obligations.ValidateAcceptsExactlyTheRightChecksum : Prop :=
  ∀ (s : State) (b0 b1 b2 b3 b4 : Byte), s.csum = 0 → s.sr = b0 ++ (b1 ++ (b2 ++ (b3 ++ b4))) →
    ((b0.toNat + b1.toNat + b2.toNat + b3.toNat) % 256 = b4.toNat →
      runOps Instr.validate s = .next { s with csum := b4, csok := true, upc := s.upc + 5, rel := false }) ∧
    ((b0.toNat + b1.toNat + b2.toNat + b3.toNat) % 256 ≠ b4.toNat →
      runOps Instr.validate s = .next { s with
        csum := b0 + b1 + b2 + b3, upc := s.upc + 4, err := 2, busy := false, done := true, rel := true })

/-- What R105 says and the spec derives from R102 by induction on the shifts: after `THR` and `DEC 0` to `DEC 39` in
order, `SR[39 − n]` is the Bit of data bit `n` with the one `THRESH` that `THR` wrote; equivalently `byte(j)[7 − m]`
is the Bit of data bit `8j + m`. Nothing else changes. -/
def Obligations.DecodeFillsTheFrameMostSignificantFirst : Prop :=
  ∀ s : State, s.params.valid = true → LowCountsFit s →
    ∃ t, runOps Instr.decodeSeq s = .next t ∧
      t = { s with thresh := t.thresh, sr := t.sr, upc := s.upc + 41, rel := false } ∧
      t.thresh.toNat = meanOf s ∧
      (∀ n : Fin 40, t.sr.getLsbD (39 - n.val) =
        bitFrom s.params (meanOf s) s.hi[n.val].toNat s.lo[n.val].toNat) ∧
      (∀ (j : Fin 5) (m : Fin 8) (n : Fin 40), n.val = 8 * j.val + m.val →
        (frameByte t.sr j.val).getLsbD (7 - m.val) =
          bitFrom s.params (meanOf s) s.hi[n.val].toNat s.lo[n.val].toNat)

/-- What R106 says and the spec derives from R100 and R102: identical PulseTrain input always yields identical output,
whatever else the two engines hold. -/
def Obligations.DecodingDependsOnlyOnThePulseTrain : Prop :=
  ∀ s s' t t' : State, s.params = s'.params → s.lo = s'.lo → s.hi = s'.hi →
    runOps Instr.decodeSeq s = .next t → runOps Instr.decodeSeq s' = .next t' →
    t.sr = t'.sr ∧ t.thresh = t'.thresh

/-- The counting convention does not matter under `ABS` (N4): with one more on every count of the PulseTrain, every
Bit is the same. -/
def Obligations.AbsolutePolicyIgnoresACommonOffset : Prop :=
  ∀ s s' t t' : State, s.params.valid = true → s.params.policy = .abs → s'.params = s.params →
    (∀ i : Fin 40, s.lo[i.val].toNat + 1 < 2 ^ s.params.wCnt ∧ s'.lo[i.val].toNat = s.lo[i.val].toNat + 1 ∧
      s.hi[i.val].toNat + 1 < 2 ^ s.params.wCnt ∧ s'.hi[i.val].toNat = s.hi[i.val].toNat + 1) →
    runOps Instr.decodeSeq s = .next t → runOps Instr.decodeSeq s' = .next t' →
    t.sr = t'.sr ∧ t'.thresh.toNat = t.thresh.toNat + 1

/-- The closed form of one guard wait (R81), which the spec derives from R80. With the samples before `m` away from
the target and sample `m` at it, `m` < `MAX_ITER`, the wait takes `m` + 1 steps and delivers `m`; until then the
engine stays at the wait; with the first `MAX_ITER` samples all away it takes exactly `MAX_ITER` steps and is the
timeout abort. -/
def Obligations.GuardWaitHasItsClosedForm : Prop :=
  ∀ (s : State) (i : Instr) (l : Level) (d : Dest) (before rest : List Inputs),
    s.params.valid = true → s.busy = true → s.cnt = 0 → s.fetch = .op i → awaits i = some (l, d) →
    (∀ x ∈ before, x.rst = false ∧ x.din ≠ l) →
    (s.inputs = before ++ rest → before.length < s.params.maxIter →
      ∃ u : State, stepN before.length s = .next u ∧
        u.upc = s.upc ∧ u.busy = true ∧ u.cnt.toNat = before.length) ∧
    (∀ hit : Inputs, s.inputs = before ++ hit :: rest → before.length < s.params.maxIter →
      hit.rst = false → hit.din = l →
      stepN (before.length + 1) s = .next { writeDest d (BitVec.ofNat 32 before.length) s with
        cnt := 0, upc := s.upc + 1, rel := false, inputs := rest, tick := s.tick + (before.length + 1) }) ∧
    (s.inputs = before ++ rest → before.length = s.params.maxIter →
      stepN s.params.maxIter s = .next { s with
        cnt := BitVec.ofNat 32 s.params.maxIter, err := 1, busy := false, done := true, rel := true,
        ackc := Vector.replicate 3 0, lo := Vector.replicate 40 0, hi := Vector.replicate 40 0,
        inputs := rest, tick := s.tick + s.params.maxIter })

/-! ### The invariant and what follows from it -/

/-- The invariant holds in the reset state of every engine built with parameters in range (R30). -/
def Obligations.ResetStateHasTheInvariant : Prop :=
  (∀ p : Params, p.valid = true → (State.resetWith p).Inv) ∧ State.reset.Inv

/-- Every step keeps the invariant, from every state that has it. -/
def Obligations.EveryStepKeepsTheInvariant : Prop :=
  ∀ s t : State, s.Inv → step s = .next t → t.Inv

/-- R7: the step is total: an engine with the invariant has a next state for every input. -/
def Obligations.EngineNeverStops : Prop :=
  ∀ s : State, s.Inv → ∃ t, step s = .next t

/-- What each outcome leaves readable after termination, the table of R33, which the spec derives from R131, R134,
R145 and R146. -/
def Obligations.OutcomesLeaveWhatTheTableSays : Prop :=
  ∀ s : State, s.Inv → s.done = true →
    (s.err = 0 ∧ s.upc = 130 ∧ s.csok = true ∧ s.rvalid = true ∧ s.CountsDelivered ∧ AsComputed s ∧
      s.hum.toNat = s.sr.toNat / 2 ^ 24 ∧ s.temp.toInt = tenthsOf s.sr) ∨
    (s.err = 1 ∧ s.upc.toNat ≤ 82 ∧ s.TrainClear ∧ s.thresh = 0 ∧ s.sr = 0 ∧ s.csum = 0 ∧ s.csok = false ∧
      s.rvalid = false ∧ s.hum = 0 ∧ s.temp = 0) ∨
    (s.err = 2 ∧ s.upc = 128 ∧ s.csok = false ∧ s.rvalid = false ∧ s.hum = 0 ∧ s.temp = 0 ∧ s.CountsDelivered ∧
      AsComputed s)

/-- The Reading a host may take (R178, which the spec derives from R33) is the Reading of a Frame whose checksum is
right, and that Frame holds the Bits of the PulseTrain that stays readable: "a Frame that violates this is rejected,
never converted to a Reading". -/
def Obligations.ReadingComesFromAValidatedPulseTrain : Prop :=
  ∀ (s : State) (r : Reading), s.Inv → s.reading? = some r →
    ChecksumRight s.sr ∧ r.hum = (frameByte s.sr 0).toNat * 256 + (frameByte s.sr 1).toNat ∧ r.temp = tenthsOf s.sr ∧ AsComputed s

/-- "A read always terminates" (R137, which the spec derives from R132 and R81): for every build there is a number of
steps within which every read that is not reset has ended with `DONE` = 1. How many steps the computing
micro-operations take is not claimed (R186). -/
def Obligations.EveryReadTerminates : Prop :=
  ∀ p : Params, ∃ bound : Nat, ∀ s : State, s.Inv → s.params = p → s.busy = true →
    bound ≤ s.inputs.length → (∀ x ∈ s.inputs, x.rst = false) →
    ∃ (n : Nat) (t : State), n ≤ bound ∧ stepN n s = .next t ∧ t.busy = false ∧ t.done = true

/-- The data phase (R97, which the spec derives from R81, R91 to R93 and R131): a line whose waits are to count `c 0`
to `c 82`, each below `MAX_ITER`, takes the read from its first wait to `THR` in one step a sample, with every count
in its register, and writes nothing else. -/
def Obligations.SamplerCollectsThePulseTrain : Prop :=
  ∀ (s : State) (c : Nat → Nat) (line rest : List Inputs), s.Inv → s.busy = true → s.upc = 0 → s.cnt = 0 →
    s.inputs = line ++ rest → (∀ x ∈ line, x.rst = false) → line.map Inputs.din = lineOf c 83 →
    (∀ a, a < 83 → c a < s.params.maxIter) →
    ∃ t : State, stepN line.length s = .next t ∧
      t = { s with ackc := t.ackc, lo := t.lo, hi := t.hi, upc := 83, rel := false, inputs := rest,
                   tick := s.tick + line.length } ∧
      (∀ k : Fin 3, t.ackc[k.val].toNat = c k.val) ∧
      (∀ i : Fin 40, t.lo[i.val].toNat = c (3 + 2 * i.val) ∧ t.hi[i.val].toNat = c (4 + 2 * i.val))

/-- The whole read. An idle engine is started; the line then shows the counts `c 0` to `c 82`, whose Bits under the
built policy are those of the Frame `f`; no reset comes. The read ends: with the Reading of `f` if its checksum is
right, and with `ERR` = 2 and no Reading otherwise. The number of steps after the line is not claimed (R186). -/
def Obligations.LineOfAFrameGivesItsReading : Prop :=
  ∀ p : Params, ∃ bound : Nat,
    ∀ (s : State) (first : Inputs) (line rest : List Inputs) (c : Nat → Nat) (f : Frame),
      s.Inv → s.params = p → s.busy = false → s.inputs = first :: (line ++ rest) →
      first.rst = false → first.start = true → (∀ x ∈ line ++ rest, x.rst = false) →
      line.map Inputs.din = lineOf c 83 → (∀ a, a < 83 → c a < p.maxIter) → bound ≤ rest.length →
      (∀ n : Fin 40, f.getLsbD (39 - n.val) =
        bitFrom p (meanOfLine p c) (c (4 + 2 * n.val)) (c (3 + 2 * n.val))) →
      ∃ (n : Nat) (t : State), n ≤ 1 + line.length + bound ∧ stepN n s = .next t ∧ t.done = true ∧ t.sr = f ∧
        (ChecksumRight f → t.reading? = some { hum := f.toNat / 2 ^ 24, temp := tenthsOf f }) ∧
        (¬ ChecksumRight f → t.err = 2 ∧ t.reading? = none)

/-- The decimal digits of a result (R125, which the spec derives from R121, R122 and R124). -/
def Obligations.DigitsOfAResult : Prop :=
  (∀ s : State, s.hum.toNat = 10 * (tenthsDigits s.hum.toNat).1 + (tenthsDigits s.hum.toNat).2 ∧
    (tenthsDigits s.hum.toNat).1 ≤ 6553 ∧ (tenthsDigits s.hum.toNat).2 ≤ 9) ∧
  (∀ f : Frame, magnitudeOf f = 10 * (tempDigits f).2.1 + (tempDigits f).2.2 ∧ (tempDigits f).2.1 ≤ 3276 ∧
    (tempDigits f).2.2 ≤ 9 ∧ (tempDigits f).1 = f.getLsbD 23)
end

