-- ==== Sys2Proof/Laws/State.lean ====
section
/-! SUPPORT. One lemma per field per update: no proof unfolds a record update. -/

namespace Sys2Proof.Machine

/-! The clock (R6). -/

@[simp] theorem State.clock_upc (s : State) : (s.clock).upc = s.upc := rfl
@[simp] theorem State.clock_busy (s : State) : (s.clock).busy = s.busy := rfl
@[simp] theorem State.clock_done (s : State) : (s.clock).done = s.done := rfl
@[simp] theorem State.clock_rvalid (s : State) : (s.clock).rvalid = s.rvalid := rfl
@[simp] theorem State.clock_csok (s : State) : (s.clock).csok = s.csok := rfl
@[simp] theorem State.clock_err (s : State) : (s.clock).err = s.err := rfl
@[simp] theorem State.clock_rel (s : State) : (s.clock).rel = s.rel := rfl
@[simp] theorem State.clock_cnt (s : State) : (s.clock).cnt = s.cnt := rfl
@[simp] theorem State.clock_ackc (s : State) : (s.clock).ackc = s.ackc := rfl
@[simp] theorem State.clock_lo (s : State) : (s.clock).lo = s.lo := rfl
@[simp] theorem State.clock_hi (s : State) : (s.clock).hi = s.hi := rfl
@[simp] theorem State.clock_thresh (s : State) : (s.clock).thresh = s.thresh := rfl
@[simp] theorem State.clock_sr (s : State) : (s.clock).sr = s.sr := rfl
@[simp] theorem State.clock_csum (s : State) : (s.clock).csum = s.csum := rfl
@[simp] theorem State.clock_hum (s : State) : (s.clock).hum = s.hum := rfl
@[simp] theorem State.clock_temp (s : State) : (s.clock).temp = s.temp := rfl
@[simp] theorem State.clock_params (s : State) : (s.clock).params = s.params := rfl
@[simp] theorem State.clock_rom (s : State) : (s.clock).rom = s.rom := rfl
@[simp] theorem State.clock_inputs (s : State) : (s.clock).inputs = s.inputs.tail := rfl
@[simp] theorem State.clock_tick (s : State) : (s.clock).tick = s.tick + 1 := rfl

/-! The advance (R132). -/

@[simp] theorem State.advance_upc (s : State) : (s.advance).upc = s.upc + 1 := rfl
@[simp] theorem State.advance_busy (s : State) : (s.advance).busy = s.busy := rfl
@[simp] theorem State.advance_done (s : State) : (s.advance).done = s.done := rfl
@[simp] theorem State.advance_rvalid (s : State) : (s.advance).rvalid = s.rvalid := rfl
@[simp] theorem State.advance_csok (s : State) : (s.advance).csok = s.csok := rfl
@[simp] theorem State.advance_err (s : State) : (s.advance).err = s.err := rfl
@[simp] theorem State.advance_rel (s : State) : (s.advance).rel = false := rfl
@[simp] theorem State.advance_cnt (s : State) : (s.advance).cnt = s.cnt := rfl
@[simp] theorem State.advance_ackc (s : State) : (s.advance).ackc = s.ackc := rfl
@[simp] theorem State.advance_lo (s : State) : (s.advance).lo = s.lo := rfl
@[simp] theorem State.advance_hi (s : State) : (s.advance).hi = s.hi := rfl
@[simp] theorem State.advance_thresh (s : State) : (s.advance).thresh = s.thresh := rfl
@[simp] theorem State.advance_sr (s : State) : (s.advance).sr = s.sr := rfl
@[simp] theorem State.advance_csum (s : State) : (s.advance).csum = s.csum := rfl
@[simp] theorem State.advance_hum (s : State) : (s.advance).hum = s.hum := rfl
@[simp] theorem State.advance_temp (s : State) : (s.advance).temp = s.temp := rfl
@[simp] theorem State.advance_params (s : State) : (s.advance).params = s.params := rfl
@[simp] theorem State.advance_rom (s : State) : (s.advance).rom = s.rom := rfl
@[simp] theorem State.advance_inputs (s : State) : (s.advance).inputs = s.inputs := rfl
@[simp] theorem State.advance_tick (s : State) : (s.advance).tick = s.tick := rfl

/-! The termination (R134, R145, R146). -/

@[simp] theorem State.terminate_upc (e : ErrName) (s : State) : (s.terminate e).upc = s.upc := rfl
@[simp] theorem State.terminate_busy (e : ErrName) (s : State) : (s.terminate e).busy = false := rfl
@[simp] theorem State.terminate_done (e : ErrName) (s : State) : (s.terminate e).done = true := rfl
@[simp] theorem State.terminate_rvalid (e : ErrName) (s : State) : (s.terminate e).rvalid = s.rvalid := rfl
@[simp] theorem State.terminate_csok (e : ErrName) (s : State) : (s.terminate e).csok = s.csok := rfl
@[simp] theorem State.terminate_err (e : ErrName) (s : State) : (s.terminate e).err = e.code := rfl
@[simp] theorem State.terminate_rel (e : ErrName) (s : State) : (s.terminate e).rel = true := rfl
@[simp] theorem State.terminate_cnt (e : ErrName) (s : State) : (s.terminate e).cnt = s.cnt := rfl
@[simp] theorem State.terminate_ackc (e : ErrName) (s : State) : (s.terminate e).ackc = s.ackc := rfl
@[simp] theorem State.terminate_lo (e : ErrName) (s : State) : (s.terminate e).lo = s.lo := rfl
@[simp] theorem State.terminate_hi (e : ErrName) (s : State) : (s.terminate e).hi = s.hi := rfl
@[simp] theorem State.terminate_thresh (e : ErrName) (s : State) : (s.terminate e).thresh = s.thresh := rfl
@[simp] theorem State.terminate_sr (e : ErrName) (s : State) : (s.terminate e).sr = s.sr := rfl
@[simp] theorem State.terminate_csum (e : ErrName) (s : State) : (s.terminate e).csum = s.csum := rfl
@[simp] theorem State.terminate_hum (e : ErrName) (s : State) : (s.terminate e).hum = s.hum := rfl
@[simp] theorem State.terminate_temp (e : ErrName) (s : State) : (s.terminate e).temp = s.temp := rfl
@[simp] theorem State.terminate_params (e : ErrName) (s : State) : (s.terminate e).params = s.params := rfl
@[simp] theorem State.terminate_rom (e : ErrName) (s : State) : (s.terminate e).rom = s.rom := rfl
@[simp] theorem State.terminate_inputs (e : ErrName) (s : State) : (s.terminate e).inputs = s.inputs := rfl
@[simp] theorem State.terminate_tick (e : ErrName) (s : State) : (s.terminate e).tick = s.tick := rfl

/-! The discard (R145). -/

@[simp] theorem State.discard_upc (s : State) : (s.discard).upc = s.upc := rfl
@[simp] theorem State.discard_busy (s : State) : (s.discard).busy = s.busy := rfl
@[simp] theorem State.discard_done (s : State) : (s.discard).done = s.done := rfl
@[simp] theorem State.discard_rvalid (s : State) : (s.discard).rvalid = s.rvalid := rfl
@[simp] theorem State.discard_csok (s : State) : (s.discard).csok = s.csok := rfl
@[simp] theorem State.discard_err (s : State) : (s.discard).err = s.err := rfl
@[simp] theorem State.discard_rel (s : State) : (s.discard).rel = s.rel := rfl
@[simp] theorem State.discard_cnt (s : State) : (s.discard).cnt = s.cnt := rfl
@[simp] theorem State.discard_ackc (s : State) : (s.discard).ackc = Vector.replicate 3 0 := rfl
@[simp] theorem State.discard_lo (s : State) : (s.discard).lo = Vector.replicate 40 0 := rfl
@[simp] theorem State.discard_hi (s : State) : (s.discard).hi = Vector.replicate 40 0 := rfl
@[simp] theorem State.discard_thresh (s : State) : (s.discard).thresh = s.thresh := rfl
@[simp] theorem State.discard_sr (s : State) : (s.discard).sr = s.sr := rfl
@[simp] theorem State.discard_csum (s : State) : (s.discard).csum = s.csum := rfl
@[simp] theorem State.discard_hum (s : State) : (s.discard).hum = s.hum := rfl
@[simp] theorem State.discard_temp (s : State) : (s.discard).temp = s.temp := rfl
@[simp] theorem State.discard_params (s : State) : (s.discard).params = s.params := rfl
@[simp] theorem State.discard_rom (s : State) : (s.discard).rom = s.rom := rfl
@[simp] theorem State.discard_inputs (s : State) : (s.discard).inputs = s.inputs := rfl
@[simp] theorem State.discard_tick (s : State) : (s.discard).tick = s.tick := rfl

/-! The timeout abort (R145). -/

@[simp] theorem State.raiseTimeout_upc (s : State) : (s.raiseTimeout).upc = s.upc := rfl
@[simp] theorem State.raiseTimeout_busy (s : State) : (s.raiseTimeout).busy = false := rfl
@[simp] theorem State.raiseTimeout_done (s : State) : (s.raiseTimeout).done = true := rfl
@[simp] theorem State.raiseTimeout_rvalid (s : State) : (s.raiseTimeout).rvalid = s.rvalid := rfl
@[simp] theorem State.raiseTimeout_csok (s : State) : (s.raiseTimeout).csok = s.csok := rfl
@[simp] theorem State.raiseTimeout_err (s : State) : (s.raiseTimeout).err = 1 := rfl
@[simp] theorem State.raiseTimeout_rel (s : State) : (s.raiseTimeout).rel = true := rfl
@[simp] theorem State.raiseTimeout_cnt (s : State) : (s.raiseTimeout).cnt = s.cnt := rfl
@[simp] theorem State.raiseTimeout_ackc (s : State) : (s.raiseTimeout).ackc = Vector.replicate 3 0 := rfl
@[simp] theorem State.raiseTimeout_lo (s : State) : (s.raiseTimeout).lo = Vector.replicate 40 0 := rfl
@[simp] theorem State.raiseTimeout_hi (s : State) : (s.raiseTimeout).hi = Vector.replicate 40 0 := rfl
@[simp] theorem State.raiseTimeout_thresh (s : State) : (s.raiseTimeout).thresh = s.thresh := rfl
@[simp] theorem State.raiseTimeout_sr (s : State) : (s.raiseTimeout).sr = s.sr := rfl
@[simp] theorem State.raiseTimeout_csum (s : State) : (s.raiseTimeout).csum = s.csum := rfl
@[simp] theorem State.raiseTimeout_hum (s : State) : (s.raiseTimeout).hum = s.hum := rfl
@[simp] theorem State.raiseTimeout_temp (s : State) : (s.raiseTimeout).temp = s.temp := rfl
@[simp] theorem State.raiseTimeout_params (s : State) : (s.raiseTimeout).params = s.params := rfl
@[simp] theorem State.raiseTimeout_rom (s : State) : (s.raiseTimeout).rom = s.rom := rfl
@[simp] theorem State.raiseTimeout_inputs (s : State) : (s.raiseTimeout).inputs = s.inputs := rfl
@[simp] theorem State.raiseTimeout_tick (s : State) : (s.raiseTimeout).tick = s.tick := rfl

/-! The checksum abort (R146). -/

@[simp] theorem State.raiseChecksum_upc (s : State) : (s.raiseChecksum).upc = s.upc := rfl
@[simp] theorem State.raiseChecksum_busy (s : State) : (s.raiseChecksum).busy = false := rfl
@[simp] theorem State.raiseChecksum_done (s : State) : (s.raiseChecksum).done = true := rfl
@[simp] theorem State.raiseChecksum_rvalid (s : State) : (s.raiseChecksum).rvalid = s.rvalid := rfl
@[simp] theorem State.raiseChecksum_csok (s : State) : (s.raiseChecksum).csok = s.csok := rfl
@[simp] theorem State.raiseChecksum_err (s : State) : (s.raiseChecksum).err = 2 := rfl
@[simp] theorem State.raiseChecksum_rel (s : State) : (s.raiseChecksum).rel = true := rfl
@[simp] theorem State.raiseChecksum_cnt (s : State) : (s.raiseChecksum).cnt = s.cnt := rfl
@[simp] theorem State.raiseChecksum_ackc (s : State) : (s.raiseChecksum).ackc = s.ackc := rfl
@[simp] theorem State.raiseChecksum_lo (s : State) : (s.raiseChecksum).lo = s.lo := rfl
@[simp] theorem State.raiseChecksum_hi (s : State) : (s.raiseChecksum).hi = s.hi := rfl
@[simp] theorem State.raiseChecksum_thresh (s : State) : (s.raiseChecksum).thresh = s.thresh := rfl
@[simp] theorem State.raiseChecksum_sr (s : State) : (s.raiseChecksum).sr = s.sr := rfl
@[simp] theorem State.raiseChecksum_csum (s : State) : (s.raiseChecksum).csum = s.csum := rfl
@[simp] theorem State.raiseChecksum_hum (s : State) : (s.raiseChecksum).hum = s.hum := rfl
@[simp] theorem State.raiseChecksum_temp (s : State) : (s.raiseChecksum).temp = s.temp := rfl
@[simp] theorem State.raiseChecksum_params (s : State) : (s.raiseChecksum).params = s.params := rfl
@[simp] theorem State.raiseChecksum_rom (s : State) : (s.raiseChecksum).rom = s.rom := rfl
@[simp] theorem State.raiseChecksum_inputs (s : State) : (s.raiseChecksum).inputs = s.inputs := rfl
@[simp] theorem State.raiseChecksum_tick (s : State) : (s.raiseChecksum).tick = s.tick := rfl

/-! One counted sample (R80). -/

@[simp] theorem State.countOne_upc (s : State) : (s.countOne).upc = s.upc := rfl
@[simp] theorem State.countOne_busy (s : State) : (s.countOne).busy = s.busy := rfl
@[simp] theorem State.countOne_done (s : State) : (s.countOne).done = s.done := rfl
@[simp] theorem State.countOne_rvalid (s : State) : (s.countOne).rvalid = s.rvalid := rfl
@[simp] theorem State.countOne_csok (s : State) : (s.countOne).csok = s.csok := rfl
@[simp] theorem State.countOne_err (s : State) : (s.countOne).err = s.err := rfl
@[simp] theorem State.countOne_rel (s : State) : (s.countOne).rel = false := rfl
@[simp] theorem State.countOne_cnt (s : State) : (s.countOne).cnt = countOf s.params (s.cnt.toNat + 1) := rfl
@[simp] theorem State.countOne_ackc (s : State) : (s.countOne).ackc = s.ackc := rfl
@[simp] theorem State.countOne_lo (s : State) : (s.countOne).lo = s.lo := rfl
@[simp] theorem State.countOne_hi (s : State) : (s.countOne).hi = s.hi := rfl
@[simp] theorem State.countOne_thresh (s : State) : (s.countOne).thresh = s.thresh := rfl
@[simp] theorem State.countOne_sr (s : State) : (s.countOne).sr = s.sr := rfl
@[simp] theorem State.countOne_csum (s : State) : (s.countOne).csum = s.csum := rfl
@[simp] theorem State.countOne_hum (s : State) : (s.countOne).hum = s.hum := rfl
@[simp] theorem State.countOne_temp (s : State) : (s.countOne).temp = s.temp := rfl
@[simp] theorem State.countOne_params (s : State) : (s.countOne).params = s.params := rfl
@[simp] theorem State.countOne_rom (s : State) : (s.countOne).rom = s.rom := rfl
@[simp] theorem State.countOne_inputs (s : State) : (s.countOne).inputs = s.inputs := rfl
@[simp] theorem State.countOne_tick (s : State) : (s.countOne).tick = s.tick := rfl

/-! The reset values (R30). -/

@[simp] theorem State.clear_upc (s : State) : (s.clear).upc = 0 := rfl
@[simp] theorem State.clear_busy (s : State) : (s.clear).busy = false := rfl
@[simp] theorem State.clear_done (s : State) : (s.clear).done = false := rfl
@[simp] theorem State.clear_rvalid (s : State) : (s.clear).rvalid = false := rfl
@[simp] theorem State.clear_csok (s : State) : (s.clear).csok = false := rfl
@[simp] theorem State.clear_err (s : State) : (s.clear).err = 0 := rfl
@[simp] theorem State.clear_rel (s : State) : (s.clear).rel = false := rfl
@[simp] theorem State.clear_cnt (s : State) : (s.clear).cnt = 0 := rfl
@[simp] theorem State.clear_ackc (s : State) : (s.clear).ackc = Vector.replicate 3 0 := rfl
@[simp] theorem State.clear_lo (s : State) : (s.clear).lo = Vector.replicate 40 0 := rfl
@[simp] theorem State.clear_hi (s : State) : (s.clear).hi = Vector.replicate 40 0 := rfl
@[simp] theorem State.clear_thresh (s : State) : (s.clear).thresh = 0 := rfl
@[simp] theorem State.clear_sr (s : State) : (s.clear).sr = 0 := rfl
@[simp] theorem State.clear_csum (s : State) : (s.clear).csum = 0 := rfl
@[simp] theorem State.clear_hum (s : State) : (s.clear).hum = 0 := rfl
@[simp] theorem State.clear_temp (s : State) : (s.clear).temp = 0 := rfl
@[simp] theorem State.clear_params (s : State) : (s.clear).params = s.params := rfl
@[simp] theorem State.clear_rom (s : State) : (s.clear).rom = s.rom := rfl
@[simp] theorem State.clear_inputs (s : State) : (s.clear).inputs = s.inputs := rfl
@[simp] theorem State.clear_tick (s : State) : (s.clear).tick = s.tick := rfl

/-! The reset step (R170). -/

@[simp] theorem resetAction_upc (s : State) : (resetAction s).upc = 0 := rfl
@[simp] theorem resetAction_busy (s : State) : (resetAction s).busy = false := rfl
@[simp] theorem resetAction_done (s : State) : (resetAction s).done = false := rfl
@[simp] theorem resetAction_rvalid (s : State) : (resetAction s).rvalid = false := rfl
@[simp] theorem resetAction_csok (s : State) : (resetAction s).csok = false := rfl
@[simp] theorem resetAction_err (s : State) : (resetAction s).err = 0 := rfl
@[simp] theorem resetAction_rel (s : State) : (resetAction s).rel = false := rfl
@[simp] theorem resetAction_cnt (s : State) : (resetAction s).cnt = 0 := rfl
@[simp] theorem resetAction_ackc (s : State) : (resetAction s).ackc = Vector.replicate 3 0 := rfl
@[simp] theorem resetAction_lo (s : State) : (resetAction s).lo = Vector.replicate 40 0 := rfl
@[simp] theorem resetAction_hi (s : State) : (resetAction s).hi = Vector.replicate 40 0 := rfl
@[simp] theorem resetAction_thresh (s : State) : (resetAction s).thresh = 0 := rfl
@[simp] theorem resetAction_sr (s : State) : (resetAction s).sr = 0 := rfl
@[simp] theorem resetAction_csum (s : State) : (resetAction s).csum = 0 := rfl
@[simp] theorem resetAction_hum (s : State) : (resetAction s).hum = 0 := rfl
@[simp] theorem resetAction_temp (s : State) : (resetAction s).temp = 0 := rfl
@[simp] theorem resetAction_params (s : State) : (resetAction s).params = s.params := rfl
@[simp] theorem resetAction_rom (s : State) : (resetAction s).rom = s.rom := rfl
@[simp] theorem resetAction_inputs (s : State) : (resetAction s).inputs = s.inputs := rfl
@[simp] theorem resetAction_tick (s : State) : (resetAction s).tick = s.tick := rfl

/-! The start action (R131). -/

@[simp] theorem startAction_upc (s : State) : (startAction s).upc = 0 := rfl
@[simp] theorem startAction_busy (s : State) : (startAction s).busy = true := rfl
@[simp] theorem startAction_done (s : State) : (startAction s).done = false := rfl
@[simp] theorem startAction_rvalid (s : State) : (startAction s).rvalid = false := rfl
@[simp] theorem startAction_csok (s : State) : (startAction s).csok = false := rfl
@[simp] theorem startAction_err (s : State) : (startAction s).err = 0 := rfl
@[simp] theorem startAction_rel (s : State) : (startAction s).rel = false := rfl
@[simp] theorem startAction_cnt (s : State) : (startAction s).cnt = 0 := rfl
@[simp] theorem startAction_ackc (s : State) : (startAction s).ackc = Vector.replicate 3 0 := rfl
@[simp] theorem startAction_lo (s : State) : (startAction s).lo = Vector.replicate 40 0 := rfl
@[simp] theorem startAction_hi (s : State) : (startAction s).hi = Vector.replicate 40 0 := rfl
@[simp] theorem startAction_thresh (s : State) : (startAction s).thresh = 0 := rfl
@[simp] theorem startAction_sr (s : State) : (startAction s).sr = 0 := rfl
@[simp] theorem startAction_csum (s : State) : (startAction s).csum = 0 := rfl
@[simp] theorem startAction_hum (s : State) : (startAction s).hum = 0 := rfl
@[simp] theorem startAction_temp (s : State) : (startAction s).temp = 0 := rfl
@[simp] theorem startAction_params (s : State) : (startAction s).params = s.params := rfl
@[simp] theorem startAction_rom (s : State) : (startAction s).rom = s.rom := rfl
@[simp] theorem startAction_inputs (s : State) : (startAction s).inputs = s.inputs := rfl
@[simp] theorem startAction_tick (s : State) : (startAction s).tick = s.tick := rfl

/-! The idle step (R133). -/

@[simp] theorem idleAction_upc (s : State) : (idleAction s).upc = s.upc := rfl
@[simp] theorem idleAction_busy (s : State) : (idleAction s).busy = s.busy := rfl
@[simp] theorem idleAction_done (s : State) : (idleAction s).done = s.done := rfl
@[simp] theorem idleAction_rvalid (s : State) : (idleAction s).rvalid = s.rvalid := rfl
@[simp] theorem idleAction_csok (s : State) : (idleAction s).csok = s.csok := rfl
@[simp] theorem idleAction_err (s : State) : (idleAction s).err = s.err := rfl
@[simp] theorem idleAction_rel (s : State) : (idleAction s).rel = false := rfl
@[simp] theorem idleAction_cnt (s : State) : (idleAction s).cnt = s.cnt := rfl
@[simp] theorem idleAction_ackc (s : State) : (idleAction s).ackc = s.ackc := rfl
@[simp] theorem idleAction_lo (s : State) : (idleAction s).lo = s.lo := rfl
@[simp] theorem idleAction_hi (s : State) : (idleAction s).hi = s.hi := rfl
@[simp] theorem idleAction_thresh (s : State) : (idleAction s).thresh = s.thresh := rfl
@[simp] theorem idleAction_sr (s : State) : (idleAction s).sr = s.sr := rfl
@[simp] theorem idleAction_csum (s : State) : (idleAction s).csum = s.csum := rfl
@[simp] theorem idleAction_hum (s : State) : (idleAction s).hum = s.hum := rfl
@[simp] theorem idleAction_temp (s : State) : (idleAction s).temp = s.temp := rfl
@[simp] theorem idleAction_params (s : State) : (idleAction s).params = s.params := rfl
@[simp] theorem idleAction_rom (s : State) : (idleAction s).rom = s.rom := rfl
@[simp] theorem idleAction_inputs (s : State) : (idleAction s).inputs = s.inputs := rfl
@[simp] theorem idleAction_tick (s : State) : (idleAction s).tick = s.tick := rfl

/-! A store to the PulseTrain (R43): every other field. -/

@[simp] theorem ptWrite_upc (b : Bank) (i : Fin 40) (v : Count) (s : State) : (ptWrite b i v s).upc = s.upc := by cases b <;> rfl
@[simp] theorem ptWrite_busy (b : Bank) (i : Fin 40) (v : Count) (s : State) : (ptWrite b i v s).busy = s.busy := by cases b <;> rfl
@[simp] theorem ptWrite_done (b : Bank) (i : Fin 40) (v : Count) (s : State) : (ptWrite b i v s).done = s.done := by cases b <;> rfl
@[simp] theorem ptWrite_rvalid (b : Bank) (i : Fin 40) (v : Count) (s : State) : (ptWrite b i v s).rvalid = s.rvalid := by cases b <;> rfl
@[simp] theorem ptWrite_csok (b : Bank) (i : Fin 40) (v : Count) (s : State) : (ptWrite b i v s).csok = s.csok := by cases b <;> rfl
@[simp] theorem ptWrite_err (b : Bank) (i : Fin 40) (v : Count) (s : State) : (ptWrite b i v s).err = s.err := by cases b <;> rfl
@[simp] theorem ptWrite_rel (b : Bank) (i : Fin 40) (v : Count) (s : State) : (ptWrite b i v s).rel = s.rel := by cases b <;> rfl
@[simp] theorem ptWrite_cnt (b : Bank) (i : Fin 40) (v : Count) (s : State) : (ptWrite b i v s).cnt = s.cnt := by cases b <;> rfl
@[simp] theorem ptWrite_ackc (b : Bank) (i : Fin 40) (v : Count) (s : State) : (ptWrite b i v s).ackc = s.ackc := by cases b <;> rfl
@[simp] theorem ptWrite_thresh (b : Bank) (i : Fin 40) (v : Count) (s : State) : (ptWrite b i v s).thresh = s.thresh := by cases b <;> rfl
@[simp] theorem ptWrite_sr (b : Bank) (i : Fin 40) (v : Count) (s : State) : (ptWrite b i v s).sr = s.sr := by cases b <;> rfl
@[simp] theorem ptWrite_csum (b : Bank) (i : Fin 40) (v : Count) (s : State) : (ptWrite b i v s).csum = s.csum := by cases b <;> rfl
@[simp] theorem ptWrite_hum (b : Bank) (i : Fin 40) (v : Count) (s : State) : (ptWrite b i v s).hum = s.hum := by cases b <;> rfl
@[simp] theorem ptWrite_temp (b : Bank) (i : Fin 40) (v : Count) (s : State) : (ptWrite b i v s).temp = s.temp := by cases b <;> rfl
@[simp] theorem ptWrite_params (b : Bank) (i : Fin 40) (v : Count) (s : State) : (ptWrite b i v s).params = s.params := by cases b <;> rfl
@[simp] theorem ptWrite_rom (b : Bank) (i : Fin 40) (v : Count) (s : State) : (ptWrite b i v s).rom = s.rom := by cases b <;> rfl
@[simp] theorem ptWrite_inputs (b : Bank) (i : Fin 40) (v : Count) (s : State) : (ptWrite b i v s).inputs = s.inputs := by cases b <;> rfl
@[simp] theorem ptWrite_tick (b : Bank) (i : Fin 40) (v : Count) (s : State) : (ptWrite b i v s).tick = s.tick := by cases b <;> rfl

/-! A delivered count (R80): every field no destination is in. -/

@[simp] theorem writeDest_upc (d : Dest) (v : Count) (s : State) : (writeDest d v s).upc = s.upc := by rcases d with k | i | i <;> rfl
@[simp] theorem writeDest_busy (d : Dest) (v : Count) (s : State) : (writeDest d v s).busy = s.busy := by rcases d with k | i | i <;> rfl
@[simp] theorem writeDest_done (d : Dest) (v : Count) (s : State) : (writeDest d v s).done = s.done := by rcases d with k | i | i <;> rfl
@[simp] theorem writeDest_rvalid (d : Dest) (v : Count) (s : State) : (writeDest d v s).rvalid = s.rvalid := by rcases d with k | i | i <;> rfl
@[simp] theorem writeDest_csok (d : Dest) (v : Count) (s : State) : (writeDest d v s).csok = s.csok := by rcases d with k | i | i <;> rfl
@[simp] theorem writeDest_err (d : Dest) (v : Count) (s : State) : (writeDest d v s).err = s.err := by rcases d with k | i | i <;> rfl
@[simp] theorem writeDest_rel (d : Dest) (v : Count) (s : State) : (writeDest d v s).rel = s.rel := by rcases d with k | i | i <;> rfl
@[simp] theorem writeDest_cnt (d : Dest) (v : Count) (s : State) : (writeDest d v s).cnt = s.cnt := by rcases d with k | i | i <;> rfl
@[simp] theorem writeDest_thresh (d : Dest) (v : Count) (s : State) : (writeDest d v s).thresh = s.thresh := by rcases d with k | i | i <;> rfl
@[simp] theorem writeDest_sr (d : Dest) (v : Count) (s : State) : (writeDest d v s).sr = s.sr := by rcases d with k | i | i <;> rfl
@[simp] theorem writeDest_csum (d : Dest) (v : Count) (s : State) : (writeDest d v s).csum = s.csum := by rcases d with k | i | i <;> rfl
@[simp] theorem writeDest_hum (d : Dest) (v : Count) (s : State) : (writeDest d v s).hum = s.hum := by rcases d with k | i | i <;> rfl
@[simp] theorem writeDest_temp (d : Dest) (v : Count) (s : State) : (writeDest d v s).temp = s.temp := by rcases d with k | i | i <;> rfl
@[simp] theorem writeDest_params (d : Dest) (v : Count) (s : State) : (writeDest d v s).params = s.params := by rcases d with k | i | i <;> rfl
@[simp] theorem writeDest_rom (d : Dest) (v : Count) (s : State) : (writeDest d v s).rom = s.rom := by rcases d with k | i | i <;> rfl
@[simp] theorem writeDest_inputs (d : Dest) (v : Count) (s : State) : (writeDest d v s).inputs = s.inputs := by rcases d with k | i | i <;> rfl
@[simp] theorem writeDest_tick (d : Dest) (v : Count) (s : State) : (writeDest d v s).tick = s.tick := by rcases d with k | i | i <;> rfl

/-! The destination of a delivered count. -/

@[simp] theorem writeDest_ackc (k : Fin 3) (v : Count) (s : State) :
    writeDest (.ackc k) v s = { s with ackc := s.ackc.set k.val v } := rfl
@[simp] theorem writeDest_lo (i : Fin 40) (v : Count) (s : State) :
    writeDest (.lo i) v s = { s with lo := s.lo.set i.val v } := rfl
@[simp] theorem writeDest_hi (i : Fin 40) (v : Count) (s : State) :
    writeDest (.hi i) v s = { s with hi := s.hi.set i.val v } := rfl

/-! A completed wait (R80). -/

@[simp] theorem State.deliver_upc (d : Dest) (s : State) : (s.deliver d).upc = s.upc + 1 := by simp [State.deliver]
@[simp] theorem State.deliver_busy (d : Dest) (s : State) : (s.deliver d).busy = s.busy := by simp [State.deliver]
@[simp] theorem State.deliver_done (d : Dest) (s : State) : (s.deliver d).done = s.done := by simp [State.deliver]
@[simp] theorem State.deliver_rvalid (d : Dest) (s : State) : (s.deliver d).rvalid = s.rvalid := by simp [State.deliver]
@[simp] theorem State.deliver_csok (d : Dest) (s : State) : (s.deliver d).csok = s.csok := by simp [State.deliver]
@[simp] theorem State.deliver_err (d : Dest) (s : State) : (s.deliver d).err = s.err := by simp [State.deliver]
@[simp] theorem State.deliver_rel (d : Dest) (s : State) : (s.deliver d).rel = false := rfl
@[simp] theorem State.deliver_cnt (d : Dest) (s : State) : (s.deliver d).cnt = 0 := rfl
@[simp] theorem State.deliver_ackc (d : Dest) (s : State) : (s.deliver d).ackc = (writeDest d s.cnt s).ackc := rfl
@[simp] theorem State.deliver_lo (d : Dest) (s : State) : (s.deliver d).lo = (writeDest d s.cnt s).lo := rfl
@[simp] theorem State.deliver_hi (d : Dest) (s : State) : (s.deliver d).hi = (writeDest d s.cnt s).hi := rfl
@[simp] theorem State.deliver_thresh (d : Dest) (s : State) : (s.deliver d).thresh = s.thresh := by simp [State.deliver]
@[simp] theorem State.deliver_sr (d : Dest) (s : State) : (s.deliver d).sr = s.sr := by simp [State.deliver]
@[simp] theorem State.deliver_csum (d : Dest) (s : State) : (s.deliver d).csum = s.csum := by simp [State.deliver]
@[simp] theorem State.deliver_hum (d : Dest) (s : State) : (s.deliver d).hum = s.hum := by simp [State.deliver]
@[simp] theorem State.deliver_temp (d : Dest) (s : State) : (s.deliver d).temp = s.temp := by simp [State.deliver]
@[simp] theorem State.deliver_params (d : Dest) (s : State) : (s.deliver d).params = s.params := by simp [State.deliver]
@[simp] theorem State.deliver_rom (d : Dest) (s : State) : (s.deliver d).rom = s.rom := by simp [State.deliver]
@[simp] theorem State.deliver_inputs (d : Dest) (s : State) : (s.deliver d).inputs = s.inputs := by simp [State.deliver]
@[simp] theorem State.deliver_tick (d : Dest) (s : State) : (s.deliver d).tick = s.tick := by simp [State.deliver]

end Sys2Proof.Machine
end

