-- ==== Sys2Proof/Laws/Ops.lean ====
section
/-! SUPPORT. One lemma per shared operation that says everything it can do, and the inversion of `exec` and `step`:
a proof cites these and does not unfold the operation. -/

namespace Sys2Proof.Machine

/-! Outcomes. -/

@[simp] theorem clocked_next (s : State) : clocked (.next s) = .next s.clock := rfl
@[simp] theorem clocked_refused (r : Refusal) : clocked (.refused r) = .refused r := rfl

theorem clocked_eq_next {o : Result} {t : State} : clocked o = .next t ↔ ∃ u, o = .next u ∧ t = u.clock := by
  cases o <;> simp [clocked, eq_comm]

@[simp] theorem withIndex_some {α : Type} (i : α) (k : α → Result) : withIndex (some i) k = k i := rfl
@[simp] theorem withIndex_none {α : Type} (k : α → Result) : withIndex none k = .refused .reservedWord := rfl

theorem withIndex_eq_next {α : Type} {x : Option α} {k : α → Result} {t : State} :
    withIndex x k = .next t ↔ ∃ i, x = some i ∧ k i = .next t := by
  cases x <;> simp

/-! Index operands (R61). -/

theorem ackIndex_eq_some {x : Idx} {k : Fin 3} : ackIndex x = some k ↔ x.toNat = k.val := by
  unfold ackIndex; split <;> simp [Fin.ext_iff]; omega

theorem bitIndex_eq_some {x : Idx} {i : Fin 40} : bitIndex x = some i ↔ x.toNat = i.val := by
  unfold bitIndex; split <;> simp [Fin.ext_iff]; omega

theorem accIndex_eq_some {x : Idx} {j : Fin 4} : accIndex x = some j ↔ x.toNat = j.val := by
  unfold accIndex; split <;> simp [Fin.ext_iff]; omega

theorem ackIndex_eq_none {x : Idx} : ackIndex x = none ↔ 3 ≤ x.toNat := by
  unfold ackIndex; split <;> simp <;> omega

theorem bitIndex_eq_none {x : Idx} : bitIndex x = none ↔ 40 ≤ x.toNat := by
  unfold bitIndex; split <;> simp <;> omega

theorem accIndex_eq_none {x : Idx} : accIndex x = none ↔ 4 ≤ x.toNat := by
  unfold accIndex; split <;> simp <;> omega

theorem ackIndex_ofNat (k : Fin 3) : ackIndex (BitVec.ofNat 6 k.val) = some k := by
  rw [ackIndex_eq_some]; simp; omega

theorem bitIndex_ofNat (i : Fin 40) : bitIndex (BitVec.ofNat 6 i.val) = some i := by
  rw [bitIndex_eq_some]; simp; omega

theorem accIndex_ofNat (j : Fin 4) : accIndex (BitVec.ofNat 6 j.val) = some j := by
  rw [accIndex_eq_some]; simp; omega

/-! Inputs and parameters. -/

@[simp] theorem State.input_of_cons {s : State} {i : Inputs} {r : List Inputs} (h : s.inputs = i :: r) :
    s.input = i := by simp [State.input, h]

theorem Params.valid_iff {p : Params} :
    p.valid = true ↔ 1 ≤ p.wCnt ∧ p.wCnt ≤ 32 ∧ 1 ≤ p.maxIter ∧ p.maxIter < 2 ^ p.wCnt ∧ p.thrSkip ≤ 39 := by
  simp [Params.valid, and_assoc]

theorem Params.valid_width {p : Params} (h : p.valid = true) : 2 ^ p.wCnt ≤ 2 ^ 32 :=
  Nat.pow_le_pow_right (by decide) (Params.valid_iff.mp h).2.1

/-- A number of at most `W_CNT` bits is kept as it is. -/
theorem countOf_toNat {p : Params} (h : p.valid = true) {n : Nat} (hn : n < 2 ^ p.wCnt) : (countOf p n).toNat = n := by
  have := Params.valid_width h
  simp [countOf, Nat.mod_eq_of_lt hn]; omega

/-! The guard (R80). -/

/-- Everything one guard step can do. -/
theorem guardStep_cases (t : Level) (d : Dest) (s : State) :
    (s.sample = t ∧ guardStep t d s = s.deliver d) ∨
    (s.sample ≠ t ∧ s.cnt.toNat + 1 = s.params.maxIter ∧ guardStep t d s = s.countOne.raiseTimeout) ∨
    (s.sample ≠ t ∧ s.cnt.toNat + 1 ≠ s.params.maxIter ∧ guardStep t d s = s.countOne) := by
  by_cases h : s.sample = t <;> by_cases hb : s.cnt.toNat + 1 = s.params.maxIter <;>
    simp [guardStep, levelHit, boundHit, h, hb]

/-- Below the bound, one more count is the counter plus one: it does not wrap. -/
theorem countOf_succ {s : State} (hv : s.params.valid = true) (h : s.cnt.toNat + 1 ≤ s.params.maxIter) :
    countOf s.params (s.cnt.toNat + 1) = s.cnt + 1 := by
  have hw := Params.valid_width hv
  have hm := (Params.valid_iff.mp hv).2.2.2.1
  apply BitVec.eq_of_toNat_eq
  rw [countOf_toNat hv (by omega)]
  simp; omega

/-- An await micro-operation is a guard step (R91, R92, R93). -/
theorem exec_await {i : Instr} {l : Level} {d : Dest} (h : awaits i = some (l, d)) (s : State) :
    exec i s = .next (guardStep l d s) := by
  cases i <;> simp [awaits] at h <;> obtain ⟨a, ha, rfl, rfl⟩ := h <;> simp [exec, execAck, execMlo, execMhi, ha]

/-! The Frame. -/

theorem frameByte_toNat (f : Frame) (j : Nat) : (frameByte f j).toNat = f.toNat / 2 ^ (32 - 8 * j) % 256 := by
  simp [frameByte, Nat.shiftRight_eq_div_pow]

theorem shiftIn_getLsbD (f : Frame) (b : Bool) (n : Nat) :
    (shiftIn f b).getLsbD n = if n = 0 then b else (decide (n < 40) && f.getLsbD (n - 1)) := by
  unfold shiftIn
  rw [BitVec.getLsbD_append, BitVec.getLsbD_extractLsb']
  rcases n with _ | n
  · simp
  · by_cases h : n < 39 <;> simp [h] <;> omega

theorem partialSum_four (f : Frame) : partialSum f 4 = frameSum f := by simp [partialSum, frameSum]

/-! The ROM (R66). -/

theorem romContents_getElem? (a : Nat) : romContents[a]? = if a < 131 then some (romWord a) else none := by
  simp [romContents, List.getElem?_map]; split <;> simp_all

theorem decode_romWord : ∀ a : Fin 131, decode (romWord a.val) = .op (romOp a.val) := by decide

/-- With the micro-program in the ROM, the fetch is the micro-operation of R66 at `UPC`. -/
theorem State.fetch_eq {s : State} (hr : s.rom = romContents) (hu : s.upc.toNat ≤ 130) :
    s.fetch = .op (romOp s.upc.toNat) := by
  unfold State.fetch romDecode
  rw [hr, romContents_getElem?, if_pos (by omega)]
  exact decode_romWord ⟨s.upc.toNat, by omega⟩

/-! Placing a word and an input. -/

@[simp] theorem State.placeWord_inputs (w : MicroWord) (s : State) : (s.placeWord w).inputs = s.inputs := by
  unfold State.placeWord; split <;> rfl

@[simp] theorem State.placeWord_params (w : MicroWord) (s : State) : (s.placeWord w).params = s.params := by
  unfold State.placeWord; split <;> rfl

theorem State.placeWord_fetch (w : MicroWord) (s : State) : (s.placeWord w).fetch = decode w := by
  unfold State.placeWord; split <;> simp [State.fetch, romDecode, *]

@[simp] theorem State.placeInput_params (s : State) : s.placeInput.params = s.params := by
  unfold State.placeInput; split <;> rfl

@[simp] theorem State.placeInput_fetch (s : State) : s.placeInput.fetch = s.fetch := by
  unfold State.placeInput; split <;> rfl

@[simp] theorem State.placeInput_rst (s : State) : s.placeInput.input.rst = false := by
  unfold State.placeInput; split <;> rfl

/-! What no micro-operation writes. -/

/-- `exec` leaves the parameters, the ROM, the supplied inputs and the edge count alone. -/
theorem exec_keeps {i : Instr} {s t : State} (h : exec i s = .next t) :
    t.params = s.params ∧ t.rom = s.rom ∧ t.inputs = s.inputs ∧ t.tick = s.tick := by
  have guard : ∀ l d, (guardStep l d s).params = s.params ∧ (guardStep l d s).rom = s.rom ∧
      (guardStep l d s).inputs = s.inputs ∧ (guardStep l d s).tick = s.tick := by
    intro l d
    rcases guardStep_cases l d s with ⟨-, e⟩ | ⟨-, -, e⟩ | ⟨-, -, e⟩ <;> rw [e] <;> simp
  cases i with
  | ack l k => obtain ⟨n, -, e⟩ := withIndex_eq_next.mp h; cases e; exact guard _ _
  | mlo n => obtain ⟨n, -, e⟩ := withIndex_eq_next.mp h; cases e; exact guard _ _
  | mhi n => obtain ⟨n, -, e⟩ := withIndex_eq_next.mp h; cases e; exact guard _ _
  | thr => cases h; simp
  | dec n => obtain ⟨n, -, e⟩ := withIndex_eq_next.mp h; cases e; simp
  | acc n => obtain ⟨n, -, e⟩ := withIndex_eq_next.mp h; cases e; simp
  | cmp => cases h; split <;> simp
  | cnv => cases h; simp
  | fin => cases h; simp

/-- Everything a step with a next state can be (R130). -/
theorem step_cases {s t : State} (h : step s = .next t) :
    s.params.valid = true ∧
    ((s.input.rst = true ∧ t = (resetAction s).clock) ∨
     (s.input.rst = false ∧ s.busy = false ∧ s.input.start = true ∧ t = (startAction s).clock) ∨
     (s.input.rst = false ∧ s.busy = false ∧ s.input.start = false ∧ t = (idleAction s).clock) ∨
     (s.input.rst = false ∧ s.busy = true ∧ ∃ i u, s.fetch = .op i ∧ exec i s = .next u ∧ t = u.clock)) := by
  unfold step at h
  split at h
  · rename_i hv
    refine ⟨hv, ?_⟩
    obtain ⟨u, hu, rfl⟩ := clocked_eq_next.mp h
    unfold edge at hu
    by_cases hr : s.input.rst = true
    · simp only [hr, if_true] at hu; cases hu; exact .inl ⟨hr, rfl⟩
    · simp only [Bool.not_eq_true] at hr
      by_cases hb : s.busy = true
      · simp only [hr, hb, if_true] at hu
        cases hf : s.fetch with
        | op i => simp [hf] at hu; exact .inr (.inr (.inr ⟨hr, hb, i, u, rfl, hu, rfl⟩))
        | reserved r => simp [hf] at hu
      · simp only [Bool.not_eq_true] at hb
        by_cases hs : s.input.start = true
        · simp [hr, hb, hs] at hu; exact .inr (.inl ⟨hr, hb, hs, by rw [← hu]⟩)
        · simp only [Bool.not_eq_true] at hs
          simp [hr, hb, hs] at hu; exact .inr (.inr (.inl ⟨hr, hb, hs, by rw [← hu]⟩))
  · simp at h

/-- With a read in flight and no reset, a step is the fetched micro-operation with the clock moved on. -/
theorem step_op {s : State} {i : Instr} (hv : s.params.valid = true) (hr : s.input.rst = false) (hb : s.busy = true)
    (hf : s.fetch = .op i) : step s = clocked (exec i s) := by
  simp [step, edge, hv, hr, hb, hf]

/-! Several steps. -/

theorem stepN_one {s t : State} (h : step s = .next t) : stepN 1 s = .next t := by simp [stepN, h]

theorem stepN_succ {s t : State} (n : Nat) (h : step s = .next t) : stepN (n + 1) s = stepN n t := by
  simp only [stepN, h]

theorem stepN_succ_inv {s t : State} {n : Nat} (h : stepN (n + 1) s = .next t) :
    ∃ u, step s = .next u ∧ stepN n u = .next t := by
  simp only [stepN] at h
  split at h
  · exact ⟨_, ‹_›, h⟩
  · cases h
  · cases h

theorem stepN_add {s t : State} {n : Nat} (m : Nat) (h : stepN n s = .next t) : stepN (n + m) s = stepN m t := by
  induction n generalizing s with
  | zero => cases h; rw [Nat.zero_add]
  | succ n ih =>
    obtain ⟨u, h1, h2⟩ := stepN_succ_inv h
    rw [Nat.succ_add, stepN_succ _ h1, ih h2]

/-- `stepN` is the host's `Core.run` on this machine. -/
theorem stepN_eq_run (n : Nat) (s : State) : stepN n s = Host.Core.run core n s := by
  induction n generalizing s with
  | zero => rfl
  | succ n ih =>
    have hc : core.step s = step s := rfl
    simp only [stepN, Host.Core.run, hc]
    cases step s with
    | next t => exact ih t
    | fault r => rfl
    | refused r => rfl

end Sys2Proof.Machine
end

