-- ==== Sys2Proof/Laws/PerInstr.lean ====
section
/-! SUPPORT. Statements about every micro-operation as syntax, one lemma per constructor. -/

namespace Sys2Proof.Laws.ZBitClear

/-- The `z` bit of the encoded word is 0, as R60 has it: "always 0". -/
def Statement (i : Instr) : Prop := (encode i).getLsbD 6 = false

theorem ack (t : Level) (k : Idx) : Statement (.ack t k) := by
  cases t <;> revert k <;> unfold Statement <;> decide
theorem mlo (i : Idx) : Statement (.mlo i) := by revert i; unfold Statement; decide
theorem mhi (i : Idx) : Statement (.mhi i) := by revert i; unfold Statement; decide
theorem thr : Statement .thr := by unfold Statement; decide
theorem dec (i : Idx) : Statement (.dec i) := by revert i; unfold Statement; decide
theorem acc (j : Idx) : Statement (.acc j) := by revert j; unfold Statement; decide
theorem cmp : Statement .cmp := by unfold Statement; decide
theorem cnv : Statement .cnv := by unfold Statement; decide
theorem fin : Statement .fin := by unfold Statement; decide

end Sys2Proof.Laws.ZBitClear
end

