-- ==== Sys2Proof/Tests/Slice0.lean ====
section
/-! SUPPORT. Tests of the model against values the spec gives (95_test_vectors.md, 30_encoding.md), each named by its
vector, and for every statement with hypotheses a concrete state and operands that meet them. -/

set_option maxRecDepth 20000

namespace Sys2Proof.Tests

open Sys2Proof.Machine Sys2Proof.Claims

/-! ### Helpers -/

/-- The parameters of most vectors: `W_CNT` 16, `MAX_ITER` 100, `ABS`, `THR_SKIP` 0. -/
def p100 : Params := { wCnt := 16, maxIter := 100, policy := .abs, thrSkip := 0 }

/-- The alternative build. -/
def pRatio : Params := { p100 with policy := .ratio }

/-- An input record: `start` and `din`. -/
def inp (start din : Bool) : Inputs := { rst := false, start := start, din := din, raddr := 0 }

/-- A read in flight at ROM address `u`, everything else 0. -/
def at_ (p : Params) (u : BitVec 8) (din : Bool) : State :=
  { State.resetWith p with busy := true, upc := u, inputs := [inp false din] }

/-- One field of the next state, where there is one. -/
def after {α : Type} (r : Result) (f : State → α) : Option α :=
  match r with
  | .next t    => some (f t)
  | .fault _   => none
  | .refused _ => none

/-! ### WellFormed: each check refuses an ill-formed term (R61) -/

theorem test_wf_ack : Instr.wf (.ack true 2) = true ∧ Instr.wf (.ack true 3) = false := by decide
theorem test_wf_mlo : Instr.wf (.mlo 39) = true ∧ Instr.wf (.mlo 40) = false := by decide
theorem test_wf_mhi : Instr.wf (.mhi 39) = true ∧ Instr.wf (.mhi 40) = false := by decide
theorem test_wf_dec : Instr.wf (.dec 39) = true ∧ Instr.wf (.dec 63) = false := by decide
theorem test_wf_acc : Instr.wf (.acc 3) = true ∧ Instr.wf (.acc 4) = false := by decide
theorem test_wf_plain : Instr.wf .thr ∧ Instr.wf .cmp ∧ Instr.wf .cnv ∧ Instr.wf .fin := by decide

/-! ### Decode: words written out from the spec's patterns (R60, R62) and its listing (R66) -/

theorem test_decode_ack : decode 0b000010000001 = .op (.ack true 1) ∧ decode 0b000000000010 = .op (.ack false 2) := by
  decide
theorem test_decode_mlo : decode 0b000110100111 = .op (.mlo 39) := by decide
theorem test_decode_mhi : decode 0b001000000101 = .op (.mhi 5) := by decide
theorem test_decode_thr : decode 0b001100000000 = .op .thr := by decide
theorem test_decode_dec : decode 0b010000011010 = .op (.dec 26) := by decide
theorem test_decode_acc : decode 0b010100000010 = .op (.acc 2) := by decide
theorem test_decode_cmp : decode 0b011000000000 = .op .cmp := by decide
theorem test_decode_cnv : decode 0b011100000000 = .op .cnv := by decide
theorem test_decode_fin : decode 0b100000000000 = .op .fin := by decide

/-- R70: an opcode above 8, the `z` bit, a wrong target level, an index out of range. -/
theorem test_decode_reserved :
    decode 0b100100000000 = .reserved .opcode ∧ decode 0b000001000000 = .reserved .zBit ∧
    decode 0b000100000000 = .reserved .target ∧ decode 0b001010000000 = .reserved .target ∧
    decode 0b001110000000 = .reserved .target ∧ decode 0b000110101000 = .reserved .index ∧
    decode 0b010100000100 = .reserved .index ∧ decode 0b011000000001 = .reserved .index := by decide

/-! The words of the spec's ROM listing, address 0 first (R66). -/

def romListing0 : List MicroWord :=
  [0x000, 0x081, 0x002, 0x180, 0x200, 0x181, 0x201, 0x182, 0x202, 0x183, 0x203,
   0x184, 0x204, 0x185, 0x205, 0x186, 0x206, 0x187, 0x207, 0x188, 0x208, 0x189,
   0x209, 0x18A, 0x20A, 0x18B, 0x20B, 0x18C, 0x20C, 0x18D, 0x20D, 0x18E, 0x20E]

def romListing1 : List MicroWord :=
  [0x18F, 0x20F, 0x190, 0x210, 0x191, 0x211, 0x192, 0x212, 0x193, 0x213, 0x194,
   0x214, 0x195, 0x215, 0x196, 0x216, 0x197, 0x217, 0x198, 0x218, 0x199, 0x219,
   0x19A, 0x21A, 0x19B, 0x21B, 0x19C, 0x21C, 0x19D, 0x21D, 0x19E, 0x21E, 0x19F]

def romListing2 : List MicroWord :=
  [0x21F, 0x1A0, 0x220, 0x1A1, 0x221, 0x1A2, 0x222, 0x1A3, 0x223, 0x1A4, 0x224,
   0x1A5, 0x225, 0x1A6, 0x226, 0x1A7, 0x227, 0x300, 0x400, 0x401, 0x402, 0x403,
   0x404, 0x405, 0x406, 0x407, 0x408, 0x409, 0x40A, 0x40B, 0x40C, 0x40D, 0x40E]

def romListing3 : List MicroWord :=
  [0x40F, 0x410, 0x411, 0x412, 0x413, 0x414, 0x415, 0x416, 0x417, 0x418, 0x419,
   0x41A, 0x41B, 0x41C, 0x41D, 0x41E, 0x41F, 0x420, 0x421, 0x422, 0x423, 0x424,
   0x425, 0x426, 0x427, 0x500, 0x501, 0x502, 0x503, 0x600, 0x700, 0x800]

/-- Every word of the spec's listing is the one the formulas give. -/
theorem test_rom_listing :
    romContents.toList = romListing0 ++ romListing1 ++ romListing2 ++ romListing3 := by decide

/-- A line of the listing (R71). -/
theorem test_text : romLine 0x05 0x181 = some "0x05: 0x181  MLO 1" ∧ instrText (.ack false 2) = "ACK 0,2" := by decide

/-! ### One step, on the spec's vectors -/

theorem test_guard_V3 : after (step { at_ p100 3 false with cnt := 4 }) (fun t => (t.cnt, t.upc, t.lo[0])) =
    some (5, 3, 0) := by decide
theorem test_guard_V5 : after (step { at_ p100 2 true with cnt := 99 })
    (fun t => (t.cnt, t.err, t.busy, t.done, t.rel, t.upc)) = some (100, 1, false, true, true, 2) := by decide
theorem test_guard_V6 : after (step { at_ p100 4 false with cnt := 99 }) (fun t => (t.hi[0], t.cnt, t.upc)) =
    some (99, 0, 5) := by decide
theorem test_guard_V7 : after (step (at_ { p100 with maxIter := 1 } 1 false)) (fun t => (t.cnt, t.err, t.upc)) =
    some (1, 1, 1) := by decide
/-- The example of R91. -/
theorem test_ack : after (step { at_ p100 1 true with cnt := 7 }) (fun t => (t.ackc[1], t.cnt, t.upc)) =
    some (7, 0, 2) := by decide
/-- The example of R92. -/
theorem test_mlo : after (step { at_ p100 3 true with cnt := 4 }) (fun t => (t.lo[0], t.cnt, t.upc)) =
    some (4, 0, 4) := by decide
/-- The example of R93. -/
theorem test_mhi : after (step { at_ p100 4 false with cnt := 6 }) (fun t => (t.hi[0], t.cnt, t.upc)) =
    some (6, 0, 5) := by decide
/-- 39 low phases of 4 and one of 43: 199 div 40. -/
theorem test_thr_V31 : after (exec .thr { at_ p100 83 false with lo := (Vector.replicate 40 4).set 39 43 })
    (fun t => (t.thresh, t.upc)) = some (4, 84) := by decide
/-- Two leading low phases of 80 left out: 152 div 38. -/
theorem test_thr_V37 : after (exec .thr { at_ { p100 with thrSkip := 2 } 83 false with
    lo := ((Vector.replicate 40 4).set 0 80).set 1 80 }) (fun t => t.thresh) = some 4 := by decide
theorem test_dec_V39a : after (exec (.dec 0) { at_ p100 84 false with
    hi := Vector.replicate 40 4, lo := Vector.replicate 40 4, thresh := 4 }) (fun t => (t.sr, t.upc)) =
    some (1, 85) := by decide
theorem test_dec_V39f : after (exec (.dec 7) { at_ pRatio 91 false with
    hi := Vector.replicate 40 8, lo := Vector.replicate 40 4, sr := 1 }) (fun t => t.sr) = some 2 := by decide
/-- The example of R110. -/
theorem test_acc : after (exec (.acc 1) { at_ p100 125 false with csum := 0x02, sr := 0x028C010594 })
    (fun t => (t.csum, t.upc)) = some (0x8E, 126) := by decide
theorem test_acc_V44 : after (exec (.acc 1) { at_ p100 125 false with csum := 0xFF, sr := 0xFF01000000 })
    (fun t => t.csum) = some 0 := by decide
/-- The example of R111. -/
theorem test_cmp : after (exec .cmp { at_ p100 128 false with csum := 0x94, sr := 0x028C010594 })
    (fun t => (t.csok, t.upc, t.busy)) = some (true, 129, true) := by decide
theorem test_cmp_V46 : after (exec .cmp { at_ p100 128 false with csum := 0x94, sr := 0x028C010595 })
    (fun t => (t.csok, t.upc, t.err, t.busy, t.done, t.rel)) = some (false, 128, 2, false, true, true) := by decide
theorem test_cnv_V51 : after (exec .cnv { at_ p100 129 false with sr := 0x0000810586 })
    (fun t => (t.hum, t.temp, t.rvalid, t.ins 0x02)) = some (0, 0xFEFB, true, 0xFFFFFEFB) := by decide
theorem test_cnv_V54 : after (exec .cnv { at_ p100 129 false with sr := 0x03E880006B })
    (fun t => (t.hum, t.temp)) = some (0x03E8, 0) := by decide
theorem test_fin_V65 : after (exec .fin { at_ p100 130 false with rvalid := true, csok := true })
    (fun t => (t.busy, t.done, t.err, t.rel, t.upc, statusWord t)) =
    some (false, true, 0, true, 130, 0x0000828E) := by decide
theorem test_start_V61 : after (step { State.resetWith p100 with inputs := [inp true true] })
    (fun t => (t.busy, t.upc, t.cnt, statusWord t)) = some (true, 0, 0, 0x00000001) := by decide
theorem test_reset_V64 : after (step { at_ p100 40 false with
    cnt := 3, lo := Vector.replicate 40 4, inputs := [{ rst := true, start := true, din := true, raddr := 0 }] })
    (fun t => (t.busy, t.done, t.rel, t.lo[18])) = some (false, false, false, 0) := by decide
/-- `CONFIG` and `MAXITER` of the table of 2.8, and the addresses beside its ranges. -/
theorem test_port : (State.resetWith p100).ins 0x09 = 0x000F0000 ∧ (State.resetWith p100).ins 0x08 = 0x64 ∧
    ({ State.resetWith p100 with lo := Vector.replicate 40 4, hi := Vector.replicate 40 2 } : State).ins 0x67 = 4 ∧
    ({ State.resetWith p100 with lo := Vector.replicate 40 4, hi := Vector.replicate 40 2 } : State).ins 0x68 = 0 ∧
    ({ State.resetWith p100 with lo := Vector.replicate 40 4, hi := Vector.replicate 40 2 } : State).ins 0xA7 = 2 := by
  decide
/-- The placed word runs at the next step, from reset: `CMP` on 0 = 0, and `ACK 0,2` on a low line. -/
theorem test_placed : after (step (State.reset.withFetchWord 16 0x600)) (fun t => (t.csok, t.upc)) = some (true, 1) ∧
    after (step (State.reset.withFetchWord 16 0x002)) (fun t => (t.cnt, t.upc)) = some (0, 1) := by decide

/-- R123: minus zero keeps its sign in the Frame; the printed digits of V51 are those of R125, -26.1. -/
theorem test_sign : signAndMagnitude 0x03E880006B = (true, 0) ∧ tempDigits 0x0000810586 = (true, 26, 1) := by decide
/-- R179, U1: a host that raises `start` in a read, or right after its end, breaks the protocol; one that is idle does
not. -/
theorem test_host : (at_ p100 0 true).hostObeys = true ∧
    ({ at_ p100 0 true with inputs := [inp true true] } : State).hostObeys = false ∧
    ({ State.resetWith p100 with rel := true, inputs := [inp true true] } : State).hostObeys = false ∧
    ({ State.resetWith p100 with inputs := [inp true true] } : State).hostObeys = true := by decide

/-! ### Witnesses: for every statement with hypotheses, a state and operands that meet them together -/

/-- Reset with parameters `p`, the next input supplied. -/
def idleAt (p : Params) (x : Inputs) : State := { State.resetWith p with inputs := [x] }

theorem wit_DecodeAndEncodeAreInverse :
    (Instr.mlo 39).WellFormed ∧ decode 0x1A7 = .op (.mlo 39) ∧
    ∀ i : Instr, i.WellFormed → encode i ≠ 0x900 := by
  refine ⟨by decide, by decide, ?_⟩
  intro i _
  cases i with
  | ack t k => cases t <;> revert k <;> decide
  | mlo k => revert k; decide
  | mhi k => revert k; decide
  | thr => decide
  | dec k => revert k; decide
  | acc k => revert k; decide
  | cmp => decide
  | cnv => decide
  | fin => decide

/-- The first address that does not exist, a reserved word in the ROM, an address outside it, and each operand one
above its range. -/
theorem wit_ReservedWordsHaveNoStep :
    (130 < 131) ∧
    (∃ s : State, s.params.valid = true ∧ s.input.rst = false ∧ s.busy = true ∧ s.fetch = .reserved .target) ∧
    (∃ s : State, s.params.valid = true ∧ s.input.rst = false ∧ s.busy = true ∧ s.fetch = .reserved .noWord) ∧
    ¬ (Instr.ack true 3).WellFormed ∧ ¬ (Instr.mlo 40).WellFormed ∧ ¬ (Instr.mhi 40).WellFormed ∧
    ¬ (Instr.dec 40).WellFormed ∧ ¬ (Instr.acc 4).WellFormed :=
  ⟨by decide, ⟨(at_ p100 7 true).placeWord 0x100, by decide⟩, ⟨at_ p100 131 true, by decide⟩, by decide, by decide,
    by decide, by decide, by decide⟩

theorem wit_StepRunsTheFetchedOperation :
    (at_ p100 83 true).params.valid = true ∧ (at_ p100 83 true).input.rst = false ∧
    (at_ p100 83 true).busy = true ∧ (at_ p100 83 true).fetch = .op .thr := by decide

theorem wit_PlacedWordIsRunByTheNextStep :
    State.reset.params.valid = true ∧ decodeTableWord 12 0x1A7 = some (.mlo 39) := by decide

/-- `ResetStepZeroesEveryRegister` and `ResetHasTheHighestPriority`, in the middle of a read. -/
theorem wit_ResetStep : ∃ s : State, s.params.valid = true ∧ s.input.rst = true ∧ s.busy = true ∧ s.lo[0] ≠ 0 :=
  ⟨{ at_ p100 40 false with
      lo := Vector.replicate 40 4, inputs := [{ rst := true, start := true, din := true, raddr := 0 }] }, by decide⟩

theorem wit_StartActionBeginsAFreshRead : (idleAt p100 (inp true true)).params.valid = true ∧
    (idleAt p100 (inp true true)).input.rst = false ∧ (idleAt p100 (inp true true)).busy = false ∧
    (idleAt p100 (inp true true)).input.start = true := by decide

theorem wit_IdleStepWritesOnlyRel : (idleAt p100 (inp false true)).params.valid = true ∧
    (idleAt p100 (inp false true)).input.rst = false ∧ (idleAt p100 (inp false true)).busy = false ∧
    (idleAt p100 (inp false true)).input.start = false := by decide

theorem wit_OutcomeStaysReadableWhileIdle : ∃ s : State, s.params.valid = true ∧ s.busy = false ∧ s.hum = 0x028C ∧
    s.inputs = [inp false true, inp false false] ++ [inp true false] ∧
    ∀ x ∈ [inp false true, inp false false], x.rst = false ∧ x.start = false :=
  ⟨{ State.resetWith p100 with
      done := true, hum := 0x028C, inputs := [inp false true, inp false false, inp true false] }, by decide⟩

theorem wit_StartIsIgnoredWhileBusy : (at_ p100 0 true).busy = true ∧ ∃ t, step (at_ p100 0 true) = .next t :=
  ⟨by decide, _, rfl⟩

/-- A step of each kind that reads no line: a computing micro-operation, an idle step. -/
theorem wit_OnlyAwaitsReadTheLine :
    ((at_ p100 83 true).busy = true ∧ (at_ p100 83 true).fetch = .op .thr ∧ awaits .thr = none) ∧
    (idleAt p100 (inp false true)).busy = false := by decide

theorem wit_NothingSurvivesAStart : ∃ s s' : State, s.params = s'.params ∧ s.rom = s'.rom ∧ s.inputs = s'.inputs ∧
    s.tick = s'.tick ∧ s.busy = false ∧ s'.busy = false ∧ s.input.start = true ∧ s.hum ≠ s'.hum :=
  ⟨idleAt p100 (inp true true), { idleAt p100 (inp true true) with hum := 0x028C, done := true }, by decide⟩

/-- `ConstantsAreNeverWritten`, `UpcMovesOnlyByOneOrToZero`, `BusyAndDoneStayExclusive`,
`ReservedErrorCodesAreNeverWritten`: a step with a next state, `BUSY` and `DONE` not both 1. -/
theorem wit_AStep : (∃ t, step (at_ p100 83 true) = .next t) ∧
    ¬ ((at_ p100 83 true).busy = true ∧ (at_ p100 83 true).done = true) :=
  ⟨⟨_, rfl⟩, by decide⟩

theorem wit_RelIsAOnePeriodPulse : ∃ s t u : State, step s = .next t ∧ step t = .next u ∧ t.rel = true :=
  ⟨{ at_ p100 130 true with inputs := [inp false true, inp false true] }, _, _, rfl, rfl, rfl⟩

/-- The three clauses of a guard step (`ACK`, `MLO`, `MHI`), for either target level: at the target with the counter
one below its bound, away from it two below, away from it one below. -/
theorem wit_GuardOutcome : ∀ l : Level, ∃ s s' s'' : State,
    (s.input.din = l ∧ s.cnt.toNat + 1 = s.params.maxIter) ∧
    (s'.input.din ≠ l ∧ s'.params.valid = true ∧ s'.cnt.toNat + 1 < s'.params.maxIter) ∧
    (s''.input.din ≠ l ∧ s''.params.valid = true ∧ s''.cnt.toNat + 1 = s''.params.maxIter) := by
  intro l
  refine ⟨{ at_ p100 1 l with cnt := 99 }, { at_ p100 1 (!l) with cnt := 98 }, { at_ p100 1 (!l) with cnt := 99 }, ?_⟩
  cases l <;> decide

/-- The largest counts (V35), with none and with all but one of the pairs left out. -/
theorem wit_ThrWritesTheMeanLowPhase : ∃ s s' : State, s.params.valid = true ∧ s'.params.valid = true ∧
    s.params.thrSkip = 0 ∧ s'.params.thrSkip = 39 ∧ s.lo = Vector.replicate 40 65534 ∧ LowCountsFit s ∧
    LowCountsFit s' ∧ (∃ t, exec .thr s = .next t) ∧ (∃ t, exec .thr s' = .next t) :=
  ⟨{ State.reset with lo := Vector.replicate 40 65534 },
    { State.resetWith { Config.params with thrSkip := 39 } with lo := Vector.replicate 40 65534 },
    by decide, by decide, rfl, rfl, rfl, by unfold LowCountsFit; decide, by unfold LowCountsFit; decide, ⟨_, rfl⟩,
    ⟨_, rfl⟩⟩

/-- A bound that every low phase reaches, from both sides. -/
theorem wit_ThresholdLiesBetweenTheLowPhases : ∃ s : State, s.params.valid = true ∧ LowCountsFit s ∧
    (∃ t, exec .thr s = .next t) ∧
    (∀ j : Fin 40, s.params.thrSkip ≤ j.val → s.lo[j.val].toNat ≤ 4) ∧
    (∀ j : Fin 40, s.params.thrSkip ≤ j.val → 4 ≤ s.lo[j.val].toNat) :=
  ⟨{ at_ p100 83 true with lo := Vector.replicate 40 4 }, by decide, by unfold LowCountsFit; decide, ⟨_, rfl⟩,
    by decide, by decide⟩

/-- A low phase that is 0 and one that is not, under `RATIO`. -/
theorem wit_RatioPolicyComparesTheQuotient : ∃ s : State, s.params.policy = .ratio ∧ s.lo[0] = 0 ∧ s.lo[39] ≠ 0 ∧
    (∃ t, exec (.dec 0) s = .next t) ∧ (∃ t, exec (.dec 39) s = .next t) :=
  ⟨{ at_ pRatio 84 true with lo := (Vector.replicate 40 0).set 39 4 }, by decide, by decide, by decide, ⟨_, rfl⟩,
    ⟨_, rfl⟩⟩

/-- The states of a read in a `RATIO` build whose 83 counts are all 0, so that the Frame is 0 and valid: at a `DEC`,
at `CMP` (128), `CNV` (129) and `FIN` (130). -/
def zeroRead (u : BitVec 8) : State :=
  { at_ pRatio u true with csok := decide (129 ≤ u.toNat), rvalid := decide (130 ≤ u.toNat) }

theorem zeroRead_inv (u : BitVec 8) (h : u = 84 ∨ u = 123 ∨ u = 128 ∨ u = 129 ∨ u = 130) : (zeroRead u).Inv := by
  rcases h with rfl | rfl | rfl | rfl | rfl <;>
  exact {
    params := by decide, rom := rfl, upc := by decide, flags := by decide, rel := by decide, cnt := by decide
    counts := by unfold State.CountsDelivered; decide
    data := { thresh := by decide, sr := by decide, csum := by decide, csok := by decide, valid := by decide,
              rvalid := by decide, hum := by decide, temp := by decide }
    pending := by decide, fresh := fun h => absurd h (by decide), ended := fun h => absurd h (by decide) }

/-- At the first and at the last `DEC` of a read. -/
theorem wit_DecShiftsInTheDecidedBit : ((zeroRead 84).Inv ∧ (zeroRead 84).busy = true ∧
    (zeroRead 84).fetch = .op (.dec 0)) ∧ (zeroRead 123).Inv ∧ (zeroRead 123).busy = true ∧
    (zeroRead 123).fetch = .op (.dec 39) :=
  ⟨⟨zeroRead_inv _ (by decide), by decide⟩, zeroRead_inv _ (by decide), by decide⟩

theorem wit_CmpComparesWithTheLastByte : (zeroRead 128).Inv ∧ (zeroRead 128).busy = true ∧
    (zeroRead 128).fetch = .op .cmp ∧ (0x94#8).toNat = (0x028C010594#40).toNat % 256 ∧
    (0x94#8).toNat ≠ (0x028C010595#40).toNat % 256 :=
  ⟨zeroRead_inv _ (by decide), by decide, by decide, by decide, by decide⟩

theorem wit_CnvConvertsTheFrame : (zeroRead 129).Inv ∧ (zeroRead 129).busy = true ∧
    (zeroRead 129).fetch = .op .cnv :=
  ⟨zeroRead_inv _ (by decide), by decide, by decide⟩

theorem wit_FinEndsASuccessfulRead : (zeroRead 130).Inv ∧ (zeroRead 130).busy = true ∧
    (zeroRead 130).fetch = .op .fin :=
  ⟨zeroRead_inv _ (by decide), by decide, by decide⟩

theorem wit_ReadingIsInSignedTenths : ∃ s t : State, exec .cnv s = .next t ∧ s.sr = 0xFFFFFFFFFC :=
  ⟨{ at_ p100 129 true with sr := 0xFFFFFFFFFC }, _, rfl, rfl⟩

/-- One well-formed operand at the end of each range, and a next state. -/
theorem wit_EveryWellFormedOperationHasAStep : (Instr.ack true 2).WellFormed ∧ (Instr.mlo 39).WellFormed ∧
    (Instr.mhi 39).WellFormed ∧ Instr.thr.WellFormed ∧ (Instr.dec 39).WellFormed ∧ (Instr.acc 3).WellFormed ∧
    Instr.cmp.WellFormed ∧ Instr.cnv.WellFormed ∧ Instr.fin.WellFormed ∧
    ∃ t, exec (.dec 39) (at_ p100 123 true) = .next t ∧ t.sr ≠ (at_ p100 123 true).sr :=
  ⟨by decide, by decide, by decide, by decide, by decide, by decide, by decide, by decide, by decide, _, rfl,
    by decide⟩

/-- `i` has a next state from `s` in which the field `f` is changed. -/
def Changes {α : Type} (i : Instr) (s : State) (f : State → α) : Prop := ∃ t, exec i s = .next t ∧ f t ≠ f s

/-- For each clause of `EachRegisterHasItsWriter` a micro-operation that changes the register: the words at both ends
of their stores, by the await and by the timeout abort. -/
theorem wit_EachRegisterHasItsWriter :
    Changes .thr (at_ p100 83 true) State.upc ∧
    Changes .fin (at_ p100 130 true) State.busy ∧ Changes .fin (at_ p100 130 true) State.done ∧
    Changes .cmp { at_ p100 128 true with csum := 1 } State.err ∧
    Changes (.ack false 0) { at_ p100 0 true with cnt := 99 } State.err ∧
    Changes .fin (at_ p100 130 true) State.rel ∧
    Changes .cnv (at_ p100 129 true) State.rvalid ∧ Changes .cmp (at_ p100 128 true) State.csok ∧
    Changes (.ack false 0) (at_ p100 0 true) State.cnt ∧
    Changes (.ack true 0) { at_ p100 1 true with cnt := 7 } (fun t => t.ackc[0]) ∧
    Changes (.ack true 2) { at_ p100 1 true with cnt := 7 } (fun t => t.ackc[2]) ∧
    Changes (.mlo 0) { at_ p100 3 true with cnt := 7 } (fun t => t.lo[0]) ∧
    Changes (.mlo 39) { at_ p100 81 true with cnt := 7 } (fun t => t.lo[39]) ∧
    Changes (.mhi 0) { at_ p100 4 false with cnt := 7 } (fun t => t.hi[0]) ∧
    Changes (.mhi 39) { at_ p100 82 false with cnt := 7 } (fun t => t.hi[39]) ∧
    Changes (.mhi 39) { at_ p100 82 true with cnt := 99, ackc := Vector.replicate 3 7 } (fun t => t.ackc[2]) ∧
    Changes (.mhi 39) { at_ p100 82 true with cnt := 99, lo := Vector.replicate 40 4 } (fun t => t.lo[39]) ∧
    Changes (.mlo 39) { at_ p100 81 false with cnt := 99, hi := Vector.replicate 40 6 } (fun t => t.hi[0]) ∧
    Changes .thr { at_ p100 83 true with lo := Vector.replicate 40 4 } State.thresh ∧
    Changes (.dec 39) (at_ p100 123 true) State.sr ∧
    Changes (.acc 3) { at_ p100 127 true with sr := 0x028C010594 } State.csum ∧
    Changes .cnv { at_ p100 129 true with sr := 0x028C010594 } State.hum ∧
    Changes .cnv { at_ p100 129 true with sr := 0x028C010594 } State.temp := by
  refine ⟨?_, ?_, ?_, ?_, ?_, ?_, ?_, ?_, ?_, ?_, ?_, ?_, ?_, ?_, ?_, ?_, ?_, ?_, ?_, ?_, ?_, ?_, ?_⟩ <;>
    exact ⟨_, rfl, by decide⟩

/-- Each of the three causes of a termination. -/
theorem wit_EveryTerminationHasItsCause :
    (∃ s t : State, exec (.mhi 39) s = .next t ∧ s.done = false ∧ t.done = true ∧ t.err = 1) ∧
    (∃ s t : State, exec .cmp s = .next t ∧ s.done = false ∧ t.done = true ∧ t.err = 2) ∧
    (∃ s t : State, exec .fin s = .next t ∧ s.done = false ∧ t.done = true ∧ t.err = 0) :=
  ⟨⟨{ at_ p100 82 true with cnt := 99 }, _, rfl, by decide⟩, ⟨{ at_ p100 128 true with csum := 1 }, _, rfl, by decide⟩,
    ⟨at_ p100 130 true, _, rfl, by decide⟩⟩

/-- The parameters are in range; the four unmapped ranges have their first and last address. -/
theorem wit_OutputsAndPortFollowTheirMaps : State.reset.params.valid = true ∧
    (∀ a : BitVec 8, a ∈ [0x0A, 0x0F, 0x13, 0x3F, 0x68, 0x7F, 0xA8, 0xFF] →
      0x0A ≤ a.toNat ∧ a.toNat ≤ 0x0F ∨ 0x13 ≤ a.toNat ∧ a.toNat ≤ 0x3F ∨
      0x68 ≤ a.toNat ∧ a.toNat ≤ 0x7F ∨ 0xA8 ≤ a.toNat) := by decide

/-- Scenario A, and scenario A with the checksum one more (V46). -/
theorem wit_ValidateAcceptsExactlyTheRightChecksum : ∃ s s' : State, s.csum = 0 ∧ s'.csum = 0 ∧
    s.sr = (0x02 : Byte) ++ ((0x8C : Byte) ++ ((0x01 : Byte) ++ ((0x05 : Byte) ++ (0x94 : Byte)))) ∧
    s'.sr = (0x02 : Byte) ++ ((0x8C : Byte) ++ ((0x01 : Byte) ++ ((0x05 : Byte) ++ (0x95 : Byte)))) ∧
    (2 + 140 + 1 + 5) % 256 = 0x94 ∧ (2 + 140 + 1 + 5) % 256 ≠ 0x95 :=
  ⟨{ at_ p100 124 true with sr := 0x028C010594 }, { at_ p100 124 true with sr := 0x028C010595 }, by decide⟩

theorem wit_DecodeFillsTheFrame : ∃ s : State, s.params.valid = true ∧ LowCountsFit s ∧
    ∃ (j : Fin 5) (m : Fin 8) (n : Fin 40), n.val = 8 * j.val + m.val ∧ n.val = 39 :=
  ⟨{ at_ p100 83 true with lo := Vector.replicate 40 4 }, by decide, by unfold LowCountsFit; decide, 4, 7, 39, by decide⟩

/-- Two different states with one PulseTrain, and, for the second statement, one with every count one more. -/
theorem wit_DecodingDependsOnlyOnThePulseTrain : ∃ s s' t t' : State, s ≠ s' ∧ s.params = s'.params ∧ s.lo = s'.lo ∧
    s.hi = s'.hi ∧ runOps Instr.decodeSeq s = .next t ∧ runOps Instr.decodeSeq s' = .next t' :=
  ⟨at_ p100 83 true, { at_ p100 83 true with cnt := 7 }, _, _, by decide, rfl, rfl, rfl, rfl, rfl⟩

theorem wit_AbsolutePolicyIgnoresACommonOffset : ∃ s s' t t' : State, s.params.valid = true ∧
    s.params.policy = .abs ∧ s'.params = s.params ∧
    (∀ i : Fin 40, s.lo[i.val].toNat + 1 < 2 ^ s.params.wCnt ∧ s'.lo[i.val].toNat = s.lo[i.val].toNat + 1 ∧
      s.hi[i.val].toNat + 1 < 2 ^ s.params.wCnt ∧ s'.hi[i.val].toNat = s.hi[i.val].toNat + 1) ∧
    runOps Instr.decodeSeq s = .next t ∧ runOps Instr.decodeSeq s' = .next t' :=
  ⟨{ at_ p100 83 true with lo := Vector.replicate 40 4, hi := Vector.replicate 40 6 },
    { at_ p100 83 true with lo := Vector.replicate 40 5, hi := Vector.replicate 40 7 }, _, _, by decide, by decide,
    rfl, by decide, rfl, rfl⟩

/-- A wait at `ACK 1,1` that the line completes (V12), and one it does not (V13), with `MAX_ITER` = 8. -/
theorem wit_GuardWaitHasItsClosedForm : ∃ s s' : State,
    s.params.valid = true ∧ s.busy = true ∧ s.cnt = 0 ∧ s.fetch = .op (.ack true 1) ∧
    awaits (.ack true 1) = some (true, .ackc 1) ∧
    (∀ x ∈ List.replicate 7 (inp false false), x.rst = false ∧ x.din ≠ true) ∧
    s.inputs = List.replicate 7 (inp false false) ++ inp false true :: [] ∧ 7 < s.params.maxIter ∧
    s'.params = s.params ∧ s'.busy = true ∧ s'.cnt = 0 ∧ s'.fetch = .op (.ack true 1) ∧
    (∀ x ∈ List.replicate 8 (inp false false), x.rst = false ∧ x.din ≠ true) ∧
    s'.inputs = List.replicate 8 (inp false false) ++ [inp false true] ∧ 8 = s'.params.maxIter :=
  ⟨{ at_ { p100 with maxIter := 8 } 1 true with inputs := List.replicate 7 (inp false false) ++ [inp false true] },
    { at_ { p100 with maxIter := 8 } 1 true with inputs := List.replicate 8 (inp false false) ++ [inp false true] },
    by decide⟩

/-- `ResetStateHasTheInvariant`: the ends of the ranges of R4. -/
theorem wit_ResetStateHasTheInvariant :
    Params.valid { wCnt := 1, maxIter := 1, policy := .abs, thrSkip := 0 } = true ∧
    Params.valid { wCnt := 32, maxIter := 2 ^ 32 - 1, policy := .ratio, thrSkip := 39 } = true ∧
    Params.valid { wCnt := 16, maxIter := 0, policy := .abs, thrSkip := 0 } = false ∧
    Params.valid { wCnt := 16, maxIter := 2 ^ 16, policy := .abs, thrSkip := 0 } = false ∧
    Params.valid { wCnt := 33, maxIter := 1, policy := .abs, thrSkip := 0 } = false ∧
    Params.valid { wCnt := 16, maxIter := 1, policy := .abs, thrSkip := 40 } = false := by decide

/-- `EveryStepKeepsTheInvariant` and `EngineNeverStops`, in a read and past its end. -/
theorem wit_EveryStepKeepsTheInvariant : (zeroRead 128).Inv ∧ (∃ t, step (zeroRead 128) = .next t) ∧
    (zeroRead 130).Inv ∧ (∃ t, step (zeroRead 130) = .next t) :=
  ⟨zeroRead_inv _ (by decide), ⟨_, rfl⟩, zeroRead_inv _ (by decide), ⟨_, rfl⟩⟩

/-- The three ends of a read: success on the zero Frame, a timeout at `MHI 39`, a checksum failure on the Frame of
forty 1 bits. -/
def endSuccess : State := { zeroRead 130 with busy := false, done := true }
def endTimeout : State := { at_ p100 82 true with busy := false, done := true, err := 1, cnt := 100 }
def endChecksum : State :=
  { at_ p100 128 true with busy := false, done := true, err := 2, sr := 0xFFFFFFFFFF, csum := 0xFC }

theorem endSuccess_inv : endSuccess.Inv where
  params := by decide
  rom := rfl
  upc := by decide
  flags := by decide
  rel := by decide
  cnt := by decide
  counts := by unfold State.CountsDelivered; decide
  data := { thresh := by decide, sr := by decide, csum := by decide, csok := by decide, valid := by decide,
            rvalid := by decide, hum := by decide, temp := by decide }
  pending := by decide
  fresh := fun _ h => absurd h (by decide)
  ended := fun _ => .inl (by decide)

theorem endTimeout_inv : endTimeout.Inv where
  params := by decide
  rom := rfl
  upc := by decide
  flags := by decide
  rel := by decide
  cnt := by decide
  counts := by unfold State.CountsDelivered; decide
  data := { thresh := by decide, sr := by decide, csum := by decide, csok := by decide, valid := by decide,
            rvalid := by decide, hum := by decide, temp := by decide }
  pending := by decide
  fresh := fun _ h => absurd h (by decide)
  ended := fun _ => .inr (.inl (by unfold State.TrainClear; decide))

theorem endChecksum_inv : endChecksum.Inv where
  params := by decide
  rom := rfl
  upc := by decide
  flags := by decide
  rel := by decide
  cnt := by decide
  counts := by unfold State.CountsDelivered; decide
  data := { thresh := by decide, sr := by decide, csum := by decide, csok := by decide, valid := by decide,
            rvalid := by decide, hum := by decide, temp := by decide }
  pending := by decide
  fresh := fun _ h => absurd h (by decide)
  ended := fun _ => .inr (.inr (by decide))

theorem wit_OutcomesLeaveWhatTheTableSays :
    (endSuccess.Inv ∧ endSuccess.done = true ∧ endSuccess.err = 0) ∧
    (endTimeout.Inv ∧ endTimeout.done = true ∧ endTimeout.err = 1) ∧
    (endChecksum.Inv ∧ endChecksum.done = true ∧ endChecksum.err = 2) :=
  ⟨⟨endSuccess_inv, by decide⟩, ⟨endTimeout_inv, by decide⟩, ⟨endChecksum_inv, by decide⟩⟩

theorem wit_ReadingComesFromAValidatedPulseTrain : endSuccess.Inv ∧
    endSuccess.reading? = some { hum := 0, temp := 0 } :=
  ⟨endSuccess_inv, by decide⟩

/-- A read in flight, with any number of inputs without a reset. -/
def startedWith (p : Params) (xs : List Inputs) : State :=
  { State.resetWith p with busy := true, inputs := xs }

theorem startedWith_inv (p : Params) (h : p.valid = true) (xs : List Inputs) : (startedWith p xs).Inv where
  params := h
  rom := rfl
  upc := by show (0#8).toNat ≤ 130; decide
  flags := by simp [startedWith, State.resetWith]
  rel := by simp [startedWith, State.resetWith]
  cnt := fun _ => ⟨(Params.valid_iff.mp h).2.2.1, fun _ => rfl⟩
  counts := by
    have := (Params.valid_iff.mp h).2.2.1
    refine ⟨fun k => ?_, fun k => ?_, fun k => ?_⟩ <;> simp [startedWith, State.resetWith] <;> omega
  data := { thresh := rfl, sr := rfl, csum := rfl, csok := rfl, valid := fun h => absurd h (show ¬ 129 ≤ (0#8).toNat by decide),
            rvalid := rfl, hum := rfl, temp := rfl }
  pending := fun _ => rfl
  fresh := fun h => absurd h (by simp [startedWith])
  ended := fun h => absurd h (by simp [startedWith, State.resetWith])

theorem wit_EveryReadTerminates (bound : Nat) : ∃ s : State, s.Inv ∧ s.params = p100 ∧ s.busy = true ∧
    bound ≤ s.inputs.length ∧ ∀ x ∈ s.inputs, x.rst = false :=
  ⟨startedWith p100 (List.replicate bound (inp false true)), startedWith_inv _ (by decide) _, rfl, rfl,
    by simp [startedWith], fun x h => by rw [List.eq_of_mem_replicate h]; rfl⟩

/-- The counts of scenario A (P5): every low phase 4, a high phase 6 for a 1 and 2 for a 0. -/
def countsA (a : Nat) : Nat :=
  if a % 2 = 1 then 4 else if (0x028C010594 : Frame).getLsbD (39 - (a - 4) / 2) then 6 else 2

theorem wit_SamplerCollectsThePulseTrain : ∃ (s : State) (line rest : List Inputs), s.Inv ∧ s.busy = true ∧
    s.upc = 0 ∧ s.cnt = 0 ∧ s.inputs = line ++ rest ∧ (∀ x ∈ line, x.rst = false) ∧
    line.map Inputs.din = lineOf countsA 83 ∧ ∀ a, a < 83 → countsA a < s.params.maxIter := by
  refine ⟨startedWith p100 ((lineOf countsA 83).map (inp false)), (lineOf countsA 83).map (inp false), [],
    startedWith_inv _ (by decide) _, rfl, rfl, rfl, by simp [startedWith], ?_, ?_, ?_⟩
  · intro x h; obtain ⟨l, -, rfl⟩ := List.mem_map.mp h; rfl
  · rw [List.map_map]; exact List.map_id _
  · intro a _; unfold countsA; split
    · show 4 < 100; decide
    · split
      · show 6 < 100; decide
      · show 2 < 100; decide

/-- An idle engine right after reset, with any inputs. -/
def idleWith (p : Params) (xs : List Inputs) : State := { State.resetWith p with inputs := xs }

theorem idleWith_inv (p : Params) (h : p.valid = true) (xs : List Inputs) : (idleWith p xs).Inv :=
  let i := startedWith_inv p h xs
  { params := h, rom := rfl, upc := i.upc, flags := by simp [idleWith, State.resetWith]
    rel := by simp [idleWith, State.resetWith], cnt := by simp [idleWith, State.resetWith], counts := i.counts
    data := { thresh := rfl, sr := rfl, csum := rfl, csok := rfl, valid := fun h => absurd h (show ¬ 129 ≤ (0#8).toNat by decide),
              rvalid := rfl, hum := rfl, temp := rfl }
    pending := fun _ => rfl
    fresh := fun _ _ => ⟨rfl, rfl, by simp [State.TrainClear, idleWith, State.resetWith]⟩
    ended := fun h => absurd h (by simp [idleWith, State.resetWith]) }

/-- The Frame of scenario A, whose checksum is right; for the other clause the Frame of forty 1 bits, which the counts
0 decide to and whose checksum is wrong. -/
theorem wit_LineOfAFrameGivesItsReading (bound : Nat) :
    ∀ cf ∈ [(countsA, (0x028C010594 : Frame)), (fun _ => 0, 0xFFFFFFFFFF)],
      ∃ (s : State) (first : Inputs) (line rest : List Inputs), s.Inv ∧ s.params = p100 ∧ s.busy = false ∧
        s.inputs = first :: (line ++ rest) ∧ first.rst = false ∧ first.start = true ∧
        (∀ x ∈ line ++ rest, x.rst = false) ∧ line.map Inputs.din = lineOf cf.1 83 ∧
        (∀ a, a < 83 → cf.1 a < p100.maxIter) ∧ bound ≤ rest.length ∧
        (∀ n : Fin 40, cf.2.getLsbD (39 - n.val) =
          bitFrom p100 (meanOfLine p100 cf.1) (cf.1 (4 + 2 * n.val)) (cf.1 (3 + 2 * n.val))) := by
  have hc : ∀ a : Fin 83, countsA a.val < p100.maxIter := by decide
  have hm : meanOfLine p100 countsA = 4 := by decide
  have hf : ∀ n : Fin 40, (0x028C010594 : Frame).getLsbD (39 - n.val) =
      bitFrom p100 4 (countsA (4 + 2 * n.val)) (countsA (3 + 2 * n.val)) := by decide
  have hz : ∀ n : Fin 40, (0xFFFFFFFFFF : Frame).getLsbD (39 - n.val) =
      bitFrom p100 (meanOfLine p100 fun _ => 0) 0 0 := by decide
  intro cf h
  refine ⟨idleWith p100 (inp true true :: ((lineOf cf.1 83).map (inp false) ++ List.replicate bound (inp false true))),
    inp true true, (lineOf cf.1 83).map (inp false), List.replicate bound (inp false true),
    idleWith_inv _ (by decide) _, rfl, rfl, rfl, rfl, rfl, ?_, ?_, ?_, by simp, ?_⟩
  · intro x hx
    rcases List.mem_append.mp hx with hx | hx
    · obtain ⟨l, -, rfl⟩ := List.mem_map.mp hx; rfl
    · rw [List.eq_of_mem_replicate hx]; rfl
  · rw [List.map_map]; exact List.map_id _
  · intro a ha
    simp only [List.mem_cons, List.not_mem_nil, or_false] at h
    rcases h with rfl | rfl
    · exact hc ⟨a, ha⟩
    · show 0 < 100; decide
  · simp only [List.mem_cons, List.not_mem_nil, or_false] at h
    rcases h with rfl | rfl
    · simp only [hm]; exact hf
    · exact hz

theorem wit_checksums : ChecksumRight 0x028C010594 ∧ ¬ ChecksumRight 0xFFFFFFFFFF := by
  unfold ChecksumRight; decide

end Sys2Proof.Tests
end

section
/-! SUPPORT. What a step leaves in the registers and the flags: the reset step (R30, R170), and the one period of
`REL` (R23). -/

namespace Sys2Proof.Machine

open Sys2Proof.Claims

/-! The reset step. -/

/-- With `rst` = 1 a step is the reset action, whatever the state and the other inputs are (R170). -/
theorem step_reset {s : State} (hv : s.params.valid = true) (hr : s.input.rst = true) :
    step s = .next (resetAction s).clock := by
  simp [step, edge, hv, hr]

/-! The completion flags. -/

/-- `t` goes on with what `s` was doing: `REL` is 0, and `BUSY`, `DONE` and `ERR` are what they were (R80, R132). -/
def Continues (s t : State) : Prop := t.rel = false ∧ t.busy = s.busy ∧ t.done = s.done ∧ t.err = s.err

/-- A guard step goes on with the read or ends it by the timeout abort (R80, R145). -/
theorem guardStep_continues_or_times_out (l : Level) (d : Dest) (s : State) :
    Continues s (guardStep l d s) ∨ EndedWith 1 (guardStep l d s) := by
  rcases guardStep_cases l d s with ⟨-, e⟩ | ⟨-, -, e⟩ | ⟨-, -, e⟩ <;> rw [e]
  · left; simp [Continues]
  · right; simp [EndedWith]
  · left; simp [Continues]

theorem exec_await_continues_or_times_out {i : Instr} {l : Level} {d : Dest} {s t : State}
    (ha : awaits i = some (l, d)) (h : exec i s = .next t) : Continues s t ∨ TimedOut i t := by
  rw [exec_await ha] at h
  cases h
  exact (guardStep_continues_or_times_out l d s).imp_right fun he => ⟨by simp [ha], he⟩

/-- A micro-operation goes on with the read or ends it, by its own way of ending one (R132, R134, R140). -/
theorem exec_continues_or_ends_read {i : Instr} {s t : State} (h : exec i s = .next t) :
    Continues s t ∨ EndedRead i t := by
  cases ha : awaits i with
  | some w => exact (exec_await_continues_or_times_out ha h).imp_right .inl
  | none =>
    cases i with
    | ack l k => obtain ⟨n, hn, -⟩ := withIndex_eq_next.mp h; simp [awaits, hn] at ha
    | mlo n => obtain ⟨n, hn, -⟩ := withIndex_eq_next.mp h; simp [awaits, hn] at ha
    | mhi n => obtain ⟨n, hn, -⟩ := withIndex_eq_next.mp h; simp [awaits, hn] at ha
    | thr => cases h; left; simp [Continues]
    | dec n => obtain ⟨n, -, e⟩ := withIndex_eq_next.mp h; cases e; left; simp [Continues]
    | acc n => obtain ⟨n, -, e⟩ := withIndex_eq_next.mp h; cases e; left; simp [Continues]
    | cmp =>
      cases h
      split
      · left; simp [Continues]
      · right; simp [EndedRead, EndedWith]
    | cnv => cases h; left; simp [Continues]
    | fin => cases h; right; simp [EndedRead, EndedWith, ErrName.code]

/-- Whichever way a read ends, the flags of a termination are set (R134, R145, R146). -/
theorem flags_of_endedRead {i : Instr} {t : State} (h : EndedRead i t) :
    t.busy = false ∧ t.done = true ∧ t.rel = true := by
  obtain ⟨-, -, hf⟩ | ⟨-, -, hf⟩ | ⟨-, -, hf⟩ := h <;> exact hf

/-- `REL` after a step says whether the step ended a read (R23). -/
theorem step_rel_iff {s t : State} (h : step s = .next t) :
    t.rel = true ↔ s.input.rst = false ∧ s.busy = true ∧ t.busy = false ∧ t.done = true := by
  obtain ⟨-, ⟨hr, rfl⟩ | ⟨-, hb, -, rfl⟩ | ⟨-, hb, -, rfl⟩ | ⟨hr, hb, i, u, -, hu, rfl⟩⟩ := step_cases h
  · simp [hr]
  · simp [hb]
  · simp [hb]
  · rcases exec_continues_or_ends_read hu with ⟨hrel, hbusy, -⟩ | hend
    · simp [hrel, hbusy, hb]
    · obtain ⟨hbusy, hdone, hrel⟩ := flags_of_endedRead hend
      simp [hrel, hbusy, hdone, hr, hb]

end Sys2Proof.Machine
end

section
/-! SUPPORT. The map of the inspection port, address by address (R46). -/

namespace Sys2Proof.Machine

open Sys2Proof.Claims

/-! The register words, 0x00 to 0x09. -/

theorem State.ins_status (s : State) : s.ins 0x00 = statusWord s := rfl
theorem State.ins_hum (s : State) : s.ins 0x01 = s.hum.setWidth 32 := rfl
theorem State.ins_temp (s : State) : s.ins 0x02 = s.temp.signExtend 32 := rfl
theorem State.ins_frameHigh (s : State) : s.ins 0x03 = (s.sr.extractLsb' 32 8).setWidth 32 := rfl
theorem State.ins_frameLow (s : State) : s.ins 0x04 = s.sr.extractLsb' 0 32 := rfl
theorem State.ins_csum (s : State) : s.ins 0x05 = s.csum.setWidth 32 := rfl
theorem State.ins_thresh (s : State) : s.ins 0x06 = s.thresh := rfl
theorem State.ins_cnt (s : State) : s.ins 0x07 = s.cnt := rfl
theorem State.ins_maxIter (s : State) : s.ins 0x08 = BitVec.ofNat 32 s.params.maxIter := rfl
theorem State.ins_config (s : State) : s.ins 0x09 = configWord s.params := rfl

/-! The stores, and the addresses that no word has. -/

theorem State.ins_ackc (s : State) {a : BitVec 8} {k : Fin 3} (h : a.toNat = 0x10 + k.val) :
    s.ins a = s.ackc[k.val] := by
  simp (disch := omega) only [State.ins, if_neg, if_pos]
  simp [h]

theorem State.ins_lo (s : State) {a : BitVec 8} {i : Fin 40} (h : a.toNat = 0x40 + i.val) :
    s.ins a = ptRead s .lo i := by
  simp (disch := omega) only [State.ins, if_neg, if_pos]
  simp [h, ptRead]

theorem State.ins_hi (s : State) {a : BitVec 8} {i : Fin 40} (h : a.toNat = 0x80 + i.val) :
    s.ins a = ptRead s .hi i := by
  simp (disch := omega) only [State.ins, if_neg, if_pos]
  simp [h, ptRead]

theorem State.ins_unmapped (s : State) {a : BitVec 8}
    (h : 0x0A ≤ a.toNat ∧ a.toNat ≤ 0x0F ∨ 0x13 ≤ a.toNat ∧ a.toNat ≤ 0x3F ∨
      0x68 ≤ a.toNat ∧ a.toNat ≤ 0x7F ∨ 0xA8 ≤ a.toNat) : s.ins a = 0 := by
  simp (disch := omega) only [State.ins, if_neg]

/-! The words that are read as numbers. -/

theorem State.ins_hum_toNat (s : State) : (s.ins 0x01).toNat = s.hum.toNat := by
  rw [State.ins_hum, BitVec.toNat_setWidth_of_le (by decide)]

theorem State.ins_temp_toInt (s : State) : (s.ins 0x02).toInt = s.temp.toInt := by
  rw [State.ins_temp, BitVec.toInt_signExtend_of_le (by decide)]

theorem State.ins_frameHigh_toNat (s : State) : (s.ins 0x03).toNat = s.sr.toNat / 2 ^ 32 := by
  have := s.sr.isLt
  rw [State.ins_frameHigh, BitVec.toNat_setWidth_of_le (by decide), BitVec.extractLsb'_toNat,
    Nat.shiftRight_eq_div_pow]
  omega

theorem State.ins_frameLow_toNat (s : State) : (s.ins 0x04).toNat = s.sr.toNat % 2 ^ 32 := by
  rw [State.ins_frameLow, BitVec.extractLsb'_toNat, Nat.shiftRight_zero]

theorem State.ins_csum_toNat (s : State) : (s.ins 0x05).toNat = s.csum.toNat := by
  rw [State.ins_csum, BitVec.toNat_setWidth_of_le (by decide)]

/-- `MAX_ITER` fits the word: it is below 2^`W_CNT` (R4). -/
theorem State.ins_maxIter_toNat {s : State} (hv : s.params.valid = true) :
    (s.ins 0x08).toNat = s.params.maxIter := by
  have hw := Params.valid_width hv
  obtain ⟨-, -, -, hm, -⟩ := Params.valid_iff.mp hv
  rw [State.ins_maxIter, BitVec.toNat_ofNat, Nat.mod_eq_of_lt (by omega)]

theorem policyBit_eq (p : Policy) : policyBit p = bitNat (decide (p = .ratio)) := by
  cases p <;> rfl

theorem policyBit_le_one (p : Policy) : policyBit p ≤ 1 := by
  cases p <;> decide

/-- The fields of `CONFIG` do not overlap for parameters in range (R4, R46). -/
theorem configWord_toNat {p : Params} (hv : p.valid = true) :
    (configWord p).toNat = policyBit p.policy + p.thrSkip * 2 ^ 8 + (p.wCnt - 1) * 2 ^ 16 := by
  have hp := policyBit_le_one p.policy
  obtain ⟨-, hw, -, -, hs⟩ := Params.valid_iff.mp hv
  rw [configWord, BitVec.toNat_ofNat]
  omega

end Sys2Proof.Machine
end

section
/-! The statements about the state after a reset, the one period of `REL`, and the outputs and the port. -/

namespace Sys2Proof.Proofs

open Sys2Proof.Machine

/-- Settles O10: the step is the reset action, whose registers are the reset values. -/
theorem resetStepZeroesEveryRegister : Obligations.ResetStepZeroesEveryRegister := by
  intro s hv hr
  exact ⟨_, step_reset hv hr, by simp⟩

/-- Settles O20: a step sets `REL` exactly when it ends a read, which leaves `BUSY` = 0, and a step from `BUSY` = 0
ends none. -/
theorem relIsAOnePeriodPulse : Obligations.RelIsAOnePeriodPulse := by
  refine ⟨fun s t h => step_rel_iff h, fun s t u hst htu hrel => ?_⟩
  obtain ⟨-, -, hidle, -⟩ := (step_rel_iff hst).mp hrel
  have hu := step_rel_iff htu
  simpa [hidle] using hu

/-- Settles O39: the outputs by definition, the port by its map. -/
theorem outputsAndPortFollowTheirMaps : Obligations.OutputsAndPortFollowTheirMaps := by
  intro s
  refine ⟨rfl, rfl, s.ins_status, s.ins_hum_toNat, s.ins_temp_toInt, s.ins_frameHigh_toNat, s.ins_frameLow_toNat,
    s.ins_csum_toNat, s.ins_thresh, s.ins_cnt, fun hv => ⟨State.ins_maxIter_toNat hv, ?_⟩, fun k => ?_,
    fun i => ⟨?_, ?_⟩, fun a h => s.ins_unmapped h⟩
  · rw [State.ins_config, configWord_toNat hv, policyBit_eq]
  · exact s.ins_ackc (by rw [BitVec.toNat_ofNat]; omega)
  · exact s.ins_lo (by rw [BitVec.toNat_ofNat]; omega)
  · exact s.ins_hi (by rw [BitVec.toNat_ofNat]; omega)

end Sys2Proof.Proofs
end

section
/-! SUPPORT. The word `STATUS` as a number (R47), and what a step reads of the input sampled at its edge (R130). -/

namespace Sys2Proof.Machine

open Sys2Proof.Claims

/-! The fields of `STATUS`. -/

theorem toNat_ofBool_eq_bitNat (b : Bool) : (BitVec.ofBool b).toNat = bitNat b := by
  cases b <;> rfl

/-- Two fields side by side, as a number: the upper one stands above the width of the lower one. -/
theorem toNat_append_eq_add {m n : Nat} (x : BitVec m) (y : BitVec n) :
    (x ++ y).toNat = x.toNat * 2 ^ n + y.toNat := by
  rw [BitVec.toNat_append, ← Nat.shiftLeft_add_eq_or_of_lt y.isLt, Nat.shiftLeft_eq]

/-- `STATUS` is the sum of its fields, each at the weight of its lowest bit (R47). -/
theorem statusWord_toNat (s : State) :
    (statusWord s).toNat = bitNat s.busy + 2 * bitNat s.done + 4 * bitNat s.rvalid + 8 * bitNat s.csok +
      16 * s.err.toNat + 128 * bitNat s.rel + 256 * s.upc.toNat := by
  rw [statusWord, BitVec.toNat_setWidth_of_le (by decide)]
  simp only [toNat_append_eq_add, toNat_ofBool_eq_bitNat, BitVec.toNat_ofNat]
  omega

/-! The sampled input. Two states that differ in it alone are one state once the clock has moved on (R6). -/

variable (s : State) {x y : Inputs} (rest : List Inputs)

/-- A guard step reads the line and nothing else of the sampled input (R80). -/
theorem guardStep_clock_congr_din (l : Level) (d : Dest) (hdin : x.din = y.din) :
    (guardStep l d { s with inputs := x :: rest }).clock = (guardStep l d { s with inputs := y :: rest }).clock := by
  have hline : State.sample { s with inputs := x :: rest } = State.sample { s with inputs := y :: rest } := hdin
  unfold guardStep
  rw [hline]
  split
  · cases d <;> rfl
  · split <;> rfl

/-- A micro-operation reads nothing of the sampled input but the line, and that only where it awaits (R130). -/
theorem exec_clocked_congr_din (i : Instr) (hdin : (awaits i).isSome → x.din = y.din) :
    clocked (exec i { s with inputs := x :: rest }) = clocked (exec i { s with inputs := y :: rest }) := by
  cases ha : awaits i with
  | some w =>
    rw [exec_await ha, exec_await ha, clocked_next, clocked_next,
      guardStep_clock_congr_din s rest _ _ (hdin (by simp [ha]))]
  | none =>
    cases i with
    | ack t k => simp [awaits] at ha; simp [exec, execAck, ha]
    | mlo n => simp [awaits] at ha; simp [exec, execMlo, ha]
    | mhi n => simp [awaits] at ha; simp [exec, execMhi, ha]
    | thr => rfl
    | dec n => simp only [exec, execDec]; cases bitIndex n <;> rfl
    | acc j => simp only [exec, execAcc]; cases accIndex j <;> rfl
    | cmp => simp only [exec, execCmp]; split <;> rfl
    | cnv => rfl
    | fin => rfl

/-- What a step reads of the sampled input: `rst`, then `start` where no read is in flight, then the line where the
fetched micro-operation awaits (R130). -/
theorem step_congr_input (hrst : x.rst = y.rst) (hstart : s.busy = false → x.start = y.start)
    (hdin : s.busy = true → ∀ i, s.fetch = .op i → (awaits i).isSome → x.din = y.din) :
    step { s with inputs := x :: rest } = step { s with inputs := y :: rest } := by
  have hx : State.input { s with inputs := x :: rest } = x := rfl
  have hy : State.input { s with inputs := y :: rest } = y := rfl
  have hfetch : ∀ z, State.fetch { s with inputs := z :: rest } = s.fetch := fun _ => rfl
  have hedge : clocked (edge { s with inputs := x :: rest }) = clocked (edge { s with inputs := y :: rest }) := by
    simp only [edge, hx, hy, hfetch, hrst]
    split
    · rfl
    split
    next hb =>
      cases hf : s.fetch with
      | op i => exact exec_clocked_congr_din s rest i (hdin hb i hf)
      | reserved r => rfl
    next hb =>
      rw [hstart (by simpa using hb)]
      split <;> rfl
  simp only [step, hedge]

end Sys2Proof.Machine
end

section
/-! The statement about the port: the word `STATUS`, and that a read of the port changes nothing. -/

namespace Sys2Proof.Proofs

open Sys2Proof.Machine

/-- Settles O40: the word by its fields; the step by what it reads of its input, which is not `raddr`. -/
theorem portReadsShowStatusAndChangeNothing : Obligations.PortReadsShowStatusAndChangeNothing := by
  refine ⟨fun s => ⟨rfl, ?_⟩, fun s x rest a => ?_⟩
  · rw [State.ins_status, statusWord_toNat]
  · exact step_congr_input s rest rfl (fun _ => rfl) (fun _ _ _ _ => rfl)

end Sys2Proof.Proofs
end

section
/-! SUPPORT. A micro-operation word is its four fields (R60): the encoder writes them, and the decoder and the opcode
map read them (R61, R62, R70, R73). -/

namespace Sys2Proof

open Sys2Proof.Machine Sys2Proof.Claims

/-! The fields of a word, as numbers. -/

theorem fieldOp_toNat (w : MicroWord) : (fieldOp w).toNat = w.toNat / 256 := by
  have := w.isLt
  rw [fieldOp, BitVec.extractLsb'_toNat, Nat.shiftRight_eq_div_pow]
  omega

theorem bitNat_getLsbD (w : MicroWord) (n : Nat) : bitNat (w.getLsbD n) = w.toNat / 2 ^ n % 2 := by
  rw [BitVec.getLsbD, Nat.testBit_eq_decide_div_mod_eq, bitNat]
  split <;> simp_all

theorem fieldT_toNat (w : MicroWord) : bitNat (fieldT w) = w.toNat / 128 % 2 := bitNat_getLsbD w 7

theorem fieldZ_toNat (w : MicroWord) : bitNat (fieldZ w) = w.toNat / 64 % 2 := bitNat_getLsbD w 6

theorem fieldIdx_toNat (w : MicroWord) : (fieldIdx w).toNat = w.toNat % 64 := by
  rw [fieldIdx, BitVec.extractLsb'_toNat, Nat.shiftRight_zero]

/-- The fields stand side by side, each at the weight of its lowest bit (R60). -/
theorem word_toNat (w : MicroWord) :
    w.toNat = (fieldOp w).toNat * 256 + bitNat (fieldT w) * 128 + bitNat (fieldZ w) * 64 + (fieldIdx w).toNat := by
  rw [fieldOp_toNat, fieldT_toNat, fieldZ_toNat, fieldIdx_toNat]
  omega

theorem word_ext {v w : MicroWord} (hop : fieldOp v = fieldOp w) (ht : fieldT v = fieldT w) (hz : fieldZ v = fieldZ w)
    (hx : fieldIdx v = fieldIdx w) : v = w := by
  apply BitVec.eq_of_toNat_eq
  rw [word_toNat v, word_toNat w, hop, ht, hz, hx]

@[simp] theorem bitNat_false : bitNat false = 0 := rfl

@[simp] theorem bitNat_true : bitNat true = 1 := rfl

theorem bitNat_injective {a b : Bool} (h : bitNat a = bitNat b) : a = b := by
  cases a <;> cases b <;> simp_all [bitNat]

theorem bitNat_le_one (b : Bool) : bitNat b ≤ 1 := by
  cases b <;> decide

/-! The fields of a packed word, and of a word under a mask. -/

section
variable (op : BitVec 4) (t : Level) (x : Idx)

theorem pack_toNat : (pack op t x).toNat = op.toNat * 256 + bitNat t * 128 + x.toNat := by
  simp only [pack, levelBit, toNat_append_eq_add, toNat_ofBool_eq_bitNat, BitVec.toNat_ofNat]
  omega

@[simp] theorem fieldOp_pack : fieldOp (pack op t x) = op := by
  have := bitNat_le_one t
  apply BitVec.eq_of_toNat_eq
  rw [fieldOp_toNat, pack_toNat]
  omega

@[simp] theorem fieldT_pack : fieldT (pack op t x) = t := by
  have := bitNat_le_one t
  apply bitNat_injective
  rw [fieldT_toNat, pack_toNat]
  omega

@[simp] theorem fieldZ_pack : fieldZ (pack op t x) = false := by
  apply bitNat_injective
  rw [fieldZ_toNat, pack_toNat, bitNat_false]
  omega

@[simp] theorem fieldIdx_pack : fieldIdx (pack op t x) = x := by
  apply BitVec.eq_of_toNat_eq
  rw [fieldIdx_toNat, pack_toNat]
  omega

theorem pack_eq_iff {w : MicroWord} :
    pack op t x = w ↔ fieldOp w = op ∧ fieldT w = t ∧ fieldZ w = false ∧ fieldIdx w = x := by
  constructor
  · rintro rfl
    simp
  · rintro ⟨rfl, rfl, hz, rfl⟩
    exact word_ext (by simp) (by simp) (by simp [hz]) (by simp)

end

/-- A mask acts on each field by itself. -/
theorem and_eq_iff_fields (w m v : MicroWord) :
    w &&& m = v ↔ fieldOp w &&& fieldOp m = fieldOp v ∧ (fieldT w && fieldT m) = fieldT v ∧
      (fieldZ w && fieldZ m) = fieldZ v ∧ fieldIdx w &&& fieldIdx m = fieldIdx v := by
  have hop : fieldOp (w &&& m) = fieldOp w &&& fieldOp m := BitVec.extractLsb'_and
  have ht : fieldT (w &&& m) = (fieldT w && fieldT m) := BitVec.getLsbD_and
  have hz : fieldZ (w &&& m) = (fieldZ w && fieldZ m) := BitVec.getLsbD_and
  have hx : fieldIdx (w &&& m) = fieldIdx w &&& fieldIdx m := BitVec.extractLsb'_and
  rw [← hop, ← ht, ← hz, ← hx]
  exact ⟨by rintro rfl; simp, fun ⟨h1, h2, h3, h4⟩ => word_ext h1 h2 h3 h4⟩

/-! The fields of a micro-operation's word (R61, R62). -/

/-- The `op` of a micro-operation. -/
@[simp] def Instr.opcode : Instr → BitVec 4
  | .ack _ _ => 0
  | .mlo _   => 1
  | .mhi _   => 2
  | .thr     => 3
  | .dec _   => 4
  | .acc _   => 5
  | .cmp     => 6
  | .cnv     => 7
  | .fin     => 8

/-- The `t` of a micro-operation: the operand of `ACK`, the implied level of `MLO` and `MHI`, 0 elsewhere. -/
@[simp] def Instr.target : Instr → Level
  | .ack t _ => t
  | .mlo _   => true
  | _        => false

/-- The `idx` of a micro-operation, 0 where it has no index operand. -/
@[simp] def Instr.index : Instr → Idx
  | .ack _ k => k
  | .mlo i   => i
  | .mhi i   => i
  | .dec i   => i
  | .acc j   => j
  | _        => 0

theorem encode_eq_pack (i : Instr) : encode i = pack i.opcode i.target i.index := by
  cases i <;> rfl

theorem encode_toNat (i : Instr) :
    (encode i).toNat = i.opcode.toNat * 256 + bitNat i.target * 128 + i.index.toNat := by
  rw [encode_eq_pack, pack_toNat]

theorem encode_eq_iff {i : Instr} {w : MicroWord} :
    encode i = w ↔ fieldOp w = i.opcode ∧ fieldT w = i.target ∧ fieldZ w = false ∧ fieldIdx w = i.index := by
  rw [encode_eq_pack, pack_eq_iff]

/-- The number of legal values of `idx`: 1 where there is no index operand (R61). -/
@[simp] def Instr.indexBound : Instr → Nat
  | .ack _ _ => 3
  | .mlo _   => 40
  | .mhi _   => 40
  | .dec _   => 40
  | .acc _   => 4
  | _        => 1

theorem wellFormed_iff_index_lt {i : Instr} : i.WellFormed ↔ i.index.toNat < i.indexBound := by
  cases i <;> simp [Instr.WellFormed, Instr.wf, Nat.lt_succ_iff]

/-! The decoder. -/

theorem checked_eq_op {tOk : Bool} {i j : Instr} : checked tOk i = .op j ↔ tOk = true ∧ i.WellFormed ∧ i = j := by
  unfold checked
  split <;> [split; skip] <;> simp_all [Instr.WellFormed]

theorem checkedPlain_eq_op {t : Level} {x : Idx} {i j : Instr} :
    checkedPlain t x i = .op j ↔ t = false ∧ x = 0 ∧ i = j := by
  unfold checkedPlain
  split <;> [skip; split] <;> simp_all

theorem decode_encode {i : Instr} (hwf : i.WellFormed) : decode (encode i) = .op i := by
  rw [encode_eq_pack]
  simp only [decode, fieldOp_pack, fieldT_pack, fieldZ_pack, fieldIdx_pack]
  cases i with
  | thr | cmp | cnv | fin => rfl
  | ack | mlo | mhi | dec | acc => exact checked_eq_op.mpr ⟨rfl, hwf, rfl⟩

/-- `decode` answers a micro-operation exactly for the word `encode` gives to one with operands in range (R73). -/
theorem decode_eq_op_iff {w : MicroWord} {i : Instr} : decode w = .op i ↔ i.WellFormed ∧ encode i = w := by
  refine ⟨fun h => ?_, fun ⟨hwf, he⟩ => he ▸ decode_encode hwf⟩
  simp only [decode] at h
  split at h
  · cases h
  next hz =>
    have hword {j : Instr} (hop : (fieldOp w).toNat = j.opcode.toNat) (ht : fieldT w = j.target)
        (hx : fieldIdx w = j.index) : encode j = w :=
      encode_eq_iff.mpr ⟨BitVec.eq_of_toNat_eq hop, ht, by simpa using hz, hx⟩
    have hlow (ht : (!fieldT w) = true) : fieldT w = false := by simpa using ht
    split at h
    next hop => obtain ⟨-, hwf, rfl⟩ := checked_eq_op.mp h; exact ⟨hwf, hword hop rfl rfl⟩
    next hop => obtain ⟨ht, hwf, rfl⟩ := checked_eq_op.mp h; exact ⟨hwf, hword hop ht rfl⟩
    next hop => obtain ⟨ht, hwf, rfl⟩ := checked_eq_op.mp h; exact ⟨hwf, hword hop (hlow ht) rfl⟩
    next hop => obtain ⟨ht, hx, rfl⟩ := checkedPlain_eq_op.mp h; exact ⟨rfl, hword hop ht hx⟩
    next hop => obtain ⟨ht, hwf, rfl⟩ := checked_eq_op.mp h; exact ⟨hwf, hword hop (hlow ht) rfl⟩
    next hop => obtain ⟨ht, hwf, rfl⟩ := checked_eq_op.mp h; exact ⟨hwf, hword hop (hlow ht) rfl⟩
    next hop => obtain ⟨ht, hx, rfl⟩ := checkedPlain_eq_op.mp h; exact ⟨rfl, hword hop ht hx⟩
    next hop => obtain ⟨ht, hx, rfl⟩ := checkedPlain_eq_op.mp h; exact ⟨rfl, hword hop ht hx⟩
    next hop => obtain ⟨ht, hx, rfl⟩ := checkedPlain_eq_op.mp h; exact ⟨rfl, hword hop ht hx⟩
    next => cases h

/-! The opcode map (R62). -/

theorem readsOperands_index {w : MicroWord} (x : Idx) : x.toNat = w.toNat % 64 ↔ fieldIdx w = x := by
  rw [← fieldIdx_toNat, BitVec.toNat_inj, eq_comm]

/-- The bits of `idx` that the rows of `ACK` and `ACC` fix are 0 in a small index. -/
theorem and_60_eq_zero {x : Idx} (h : x.toNat ≤ 3) : x &&& 60 = 0 := by
  revert x; decide

/-- For a micro-operation in range, the row of the map and the operands of the word say which word it is. -/
theorem encode_eq_iff_row {i : Instr} {w : MicroWord} (hwf : i.WellFormed) :
    encode i = w ↔ w &&& i.row.mask = i.row.value ∧ ReadsOperands w i := by
  rw [encode_eq_iff, and_eq_iff_fields]
  have h15 (v : BitVec 4) : v &&& 15#4 = v := BitVec.and_allOnes
  have h63 (v : Idx) : v &&& 63#6 = v := BitVec.and_allOnes
  cases i with
  | thr | cmp | cnv | fin => simp [Instr.row, ReadsOperands, fieldOp, fieldT, fieldZ, fieldIdx, h15, h63]
  | mlo | mhi | dec =>
    simp [Instr.row, ReadsOperands, fieldOp, fieldT, fieldZ, fieldIdx, readsOperands_index, h15, and_assoc]
  | ack t k =>
    have hk : k &&& 60#6 = 0 := and_60_eq_zero (Nat.le_succ_of_le (of_decide_eq_true hwf))
    simp [Instr.row, ReadsOperands, fieldOp, fieldT, fieldZ, fieldIdx, readsOperands_index, h15]
    grind
  | acc j =>
    have hj : j &&& 60#6 = 0 := and_60_eq_zero (of_decide_eq_true hwf)
    simp [Instr.row, ReadsOperands, fieldOp, fieldT, fieldZ, fieldIdx, readsOperands_index, h15]
    grind

end Sys2Proof
end

section
/-! SUPPORT. The listing of the legal words (R63): ten blocks of consecutive words, one for each opcode and level. -/

namespace Sys2Proof

open Sys2Proof.Machine Sys2Proof.Claims

/-- The ranges of R63 as blocks, each its first word and its length. -/
def listedBlocks : List (Nat × Nat) :=
  [(0x000, 3), (0x080, 3), (0x180, 40), (0x200, 40), (0x300, 1), (0x400, 40), (0x500, 4), (0x600, 1), (0x700, 1),
    (0x800, 1)]

/-- The words of the blocks, in order. -/
def listedNumbers : List Nat := listedBlocks.flatMap fun b => List.range' b.1 b.2

theorem mem_listedNumbers {n : Nat} : n ∈ listedNumbers ↔ listedWord n = true := by
  simp [listedNumbers, listedBlocks, listedWord, List.mem_range'_1]
  omega

/-- No word is listed twice: each block ends before the next one begins. -/
theorem listedNumbers_nodup : listedNumbers.Nodup := by
  have hblocks : listedBlocks.Pairwise fun b c => b.1 + b.2 ≤ c.1 := by decide
  refine List.nodup_flatMap.mpr ⟨fun b _ => List.nodup_range', hblocks.imp fun hbc n hb hc => ?_⟩
  rw [List.mem_range'_1] at hb hc
  omega

/-! Every legal word is listed. -/

/-- The words of an opcode and a level are one block, as long as the range of the index. -/
theorem block_mem_listedBlocks (i : Instr) :
    (i.opcode.toNat * 256 + bitNat i.target * 128, i.indexBound) ∈ listedBlocks := by
  cases i with
  | ack t k => cases t <;> simp [listedBlocks]
  | _ => simp [listedBlocks]

theorem listedWord_encode {i : Instr} (hwf : i.WellFormed) : listedWord (encode i).toNat = true := by
  rw [wellFormed_iff_index_lt] at hwf
  refine mem_listedNumbers.mp (List.mem_flatMap.mpr ⟨_, block_mem_listedBlocks i, List.mem_range'_1.mpr ?_⟩)
  rw [encode_toNat]
  omega

/-! Every listed word is legal, and this is its micro-operation. -/

theorem decode_ofNat {i : Instr} {n : Nat} (hx : i.index.toNat < i.indexBound)
    (hn : i.opcode.toNat * 256 + bitNat i.target * 128 + i.index.toNat = n) : decode (BitVec.ofNat 12 n) = .op i := by
  rw [← hn, ← encode_toNat, BitVec.ofNat_toNat, BitVec.setWidth_eq]
  exact decode_encode (wellFormed_iff_index_lt.mpr hx)

theorem decode_ack_word (t : Level) {k : Nat} (hk : k < 3) :
    decode (BitVec.ofNat 12 (bitNat t * 128 + k)) = .op (.ack t (BitVec.ofNat 6 k)) :=
  decode_ofNat (by simp; omega) (by simp; omega)

theorem decode_mlo_word {n : Nat} (hn : n < 40) :
    decode (BitVec.ofNat 12 (0x180 + n)) = .op (.mlo (BitVec.ofNat 6 n)) :=
  decode_ofNat (by simp; omega) (by simp; omega)

theorem decode_mhi_word {n : Nat} (hn : n < 40) :
    decode (BitVec.ofNat 12 (0x200 + n)) = .op (.mhi (BitVec.ofNat 6 n)) :=
  decode_ofNat (by simp; omega) (by simp; omega)

theorem decode_dec_word {n : Nat} (hn : n < 40) :
    decode (BitVec.ofNat 12 (0x400 + n)) = .op (.dec (BitVec.ofNat 6 n)) :=
  decode_ofNat (by simp; omega) (by simp; omega)

theorem decode_acc_word {j : Nat} (hj : j < 4) :
    decode (BitVec.ofNat 12 (0x500 + j)) = .op (.acc (BitVec.ofNat 6 j)) :=
  decode_ofNat (by simp; omega) (by simp; omega)

theorem exists_decode_of_mem_block {b : Nat × Nat} (hb : b ∈ listedBlocks) {k : Nat} (hk : k < b.2) :
    ∃ i, decode (BitVec.ofNat 12 (b.1 + k)) = .op i := by
  simp only [listedBlocks, List.mem_cons, List.not_mem_nil, or_false] at hb
  have hone {n : Nat} (h : k < 1) : n + k = n := by omega
  obtain rfl | rfl | rfl | rfl | rfl | rfl | rfl | rfl | rfl | rfl := hb
  · exact ⟨_, decode_ack_word false hk⟩
  · exact ⟨_, decode_ack_word true hk⟩
  · exact ⟨_, decode_mlo_word hk⟩
  · exact ⟨_, decode_mhi_word hk⟩
  · exact ⟨.thr, by rw [hone hk]; decide⟩
  · exact ⟨_, decode_dec_word hk⟩
  · exact ⟨_, decode_acc_word hk⟩
  · exact ⟨.cmp, by rw [hone hk]; decide⟩
  · exact ⟨.cnv, by rw [hone hk]; decide⟩
  · exact ⟨.fin, by rw [hone hk]; decide⟩

theorem isSome_instr?_iff {d : Decoded} : d.instr?.isSome = true ↔ ∃ i, d = .op i := by
  cases d <;> simp [Decoded.instr?]

theorem decode_isSome_eq_listedWord (w : MicroWord) : (decode w).instr?.isSome = listedWord w.toNat := by
  rw [Bool.eq_iff_iff, isSome_instr?_iff, ← mem_listedNumbers]
  constructor
  · rintro ⟨i, hi⟩
    obtain ⟨hwf, rfl⟩ := decode_eq_op_iff.mp hi
    exact mem_listedNumbers.mpr (listedWord_encode hwf)
  · intro hn
    obtain ⟨b, hb, hn⟩ := List.mem_flatMap.mp hn
    obtain ⟨hlo, hhi⟩ := List.mem_range'_1.mp hn
    have hi := exists_decode_of_mem_block hb (k := w.toNat - b.1) (by omega)
    rwa [Nat.add_sub_cancel' hlo, BitVec.ofNat_toNat, BitVec.setWidth_eq] at hi

/-! The number of listed words. -/

theorem listedWord_lt {n : Nat} (h : listedWord n = true) : n < 4096 := by
  simp [listedWord] at h
  omega

theorem length_filter_listedWord : ((List.range 4096).filter listedWord).length = 134 := by
  have hperm : ((List.range 4096).filter listedWord).Perm listedNumbers := by
    rw [List.perm_ext_iff_of_nodup (List.nodup_range.filter _) listedNumbers_nodup]
    intro n
    rw [List.mem_filter, List.mem_range, mem_listedNumbers, and_iff_right_iff_imp]
    exact listedWord_lt
  exact hperm.length_eq

end Sys2Proof
end

section
/-! SUPPORT. The words of the ROM, address by address and segment by segment (R66, R72). -/

namespace Sys2Proof

open Sys2Proof.Machine

/-! The micro-operation at each address. -/

theorem romContents_toList : romContents.toList = (List.range' 0 131).map romWord := by
  simp [romContents, List.range_eq_range']

theorem romContents_getElem {a : Nat} (ha : a < 131) : romContents[a] = romWord a := by
  simp [romContents]

theorem decode_romContents {a : Nat} {i : Instr} (ha : a < 131) (hi : romOp a = i) :
    decode romContents[a] = .op i := by
  rw [romContents_getElem ha, ← hi]
  exact decode_romWord ⟨a, ha⟩

theorem romOp_mlo {n : Nat} (hn : n < 40) : romOp (3 + 2 * n) = .mlo (BitVec.ofNat 6 n) := by
  simp (disch := omega) only [romOp, if_neg, if_pos]
  congr 2
  omega

theorem romOp_mhi {n : Nat} (hn : n < 40) : romOp (4 + 2 * n) = .mhi (BitVec.ofNat 6 n) := by
  simp (disch := omega) only [romOp, if_neg, if_pos]
  congr 2
  omega

theorem romOp_dec {n : Nat} (hn : n < 40) : romOp (84 + n) = .dec (BitVec.ofNat 6 n) := by
  simp (disch := omega) only [romOp, if_neg, if_pos, Nat.add_sub_cancel_left]

theorem romOp_acc {j : Nat} (hj : j < 4) : romOp (124 + j) = .acc (BitVec.ofNat 6 j) := by
  simp (disch := omega) only [romOp, if_neg, if_pos, Nat.add_sub_cancel_left]

/-! Different addresses hold different words. -/

/-- The ROM address of a micro-operation, whatever its level. -/
def romAddress : Instr → Nat
  | .ack _ k => k.toNat
  | .mlo i   => 3 + 2 * i.toNat
  | .mhi i   => 4 + 2 * i.toNat
  | .thr     => 83
  | .dec i   => 84 + i.toNat
  | .acc j   => 124 + j.toNat
  | .cmp     => 128
  | .cnv     => 129
  | .fin     => 130

theorem romAddress_romOp {a : Nat} (ha : a < 131) : romAddress (romOp a) = a := by
  unfold romOp
  split_ifs <;> simp only [romAddress, BitVec.ofNat_eq_ofNat, BitVec.toNat_ofNat] <;> omega

theorem romOp_eq_of_romWord_eq {w : MicroWord} {i : Instr} {a : Nat} (ha : a < 131) (hw : romWord a = w)
    (hi : decode w = .op i) : romOp a = i := by
  subst hw
  exact Decoded.op.inj ((decode_romWord ⟨a, ha⟩).symm.trans hi)

theorem romContents_nodup : romContents.toList.Nodup := by
  rw [romContents_toList, ← List.range_eq_range']
  refine List.nodup_range.map_on fun a ha b hb hab => ?_
  rw [List.mem_range] at ha hb
  have hop : romOp a = romOp b := romOp_eq_of_romWord_eq ha hab (decode_romWord ⟨b, hb⟩)
  rw [← romAddress_romOp ha, hop, romAddress_romOp hb]

/-- A legal word whose micro-operation is not the one at its own address is not in the ROM. -/
theorem romContents_ne {w : MicroWord} {i : Instr} (hi : decode w = .op i) (hne : romOp (romAddress i) ≠ i) {a : Nat}
    (ha : a < 131) : romContents[a] ≠ w := by
  intro hw
  rw [romContents_getElem ha] at hw
  have hop : romOp a = i := romOp_eq_of_romWord_eq ha hw hi
  rw [← hop, romAddress_romOp ha] at hne
  exact hne rfl

/-! The segments. -/

theorem romSegment_eq_map {a n : Nat} (h : a + n ≤ 131) :
    (romContents.toList.drop a).take n = ((List.range' a n).map romOp).map encode := by
  rw [romContents_toList, List.map_map, ← List.map_drop, ← List.map_take, List.drop_range',
    List.take_range'_of_length_ge (by omega), Nat.zero_add, Nat.mul_one]
  rfl

theorem ackSeq_eq_map : Instr.ackSeq = (List.range' 0 3).map romOp := by decide

theorem range'_two_mul (a n : Nat) :
    List.range' a (2 * n) = (List.range n).flatMap fun k => [a + 2 * k, a + 2 * k + 1] := by
  induction n with
  | zero => rfl
  | succ n ih =>
    rw [List.range_succ, List.flatMap_append, ← ih, Nat.mul_succ, ← List.range'_append_1]
    rfl

theorem sample_eq_map : Instr.sample = (List.range' 3 80).map romOp := by
  rw [range'_two_mul 3 40, List.map_flatMap, Instr.sample, indices, List.flatMap_map]
  refine List.flatMap_congr fun n hn => ?_
  have hn := List.mem_range.mp hn
  have hmhi : romOp (3 + 2 * n + 1) = _ := (congrArg romOp (by omega)).trans (romOp_mhi hn)
  simp [Instr.bit, romOp_mlo hn, hmhi]

theorem decodeSeq_eq_map : Instr.decodeSeq = (List.range' 83 41).map romOp := by
  rw [List.range'_succ, List.map_cons, List.range'_eq_map_range, Instr.decodeSeq, indices, List.map_map, List.map_map]
  refine congrArg₂ _ (by decide) (List.map_congr_left fun n hn => (romOp_dec (List.mem_range.mp hn)).symm)

theorem validate_eq_map : Instr.validate = (List.range' 124 5).map romOp := by
  decide

theorem microProgram_eq_map : Instr.microProgram = (List.range' 0 131).map romOp := by
  have hend : [Instr.cnv, .fin] = (List.range' 129 2).map romOp := by decide
  have hsplit : List.range' 0 131 =
      List.range' 0 3 ++ List.range' 3 80 ++ List.range' 83 41 ++ List.range' 124 5 ++ List.range' 129 2 := rfl
  rw [Instr.microProgram, ackSeq_eq_map, sample_eq_map, decodeSeq_eq_map, validate_eq_map, hend, hsplit]
  simp only [List.map_append]

end Sys2Proof
end

section
/-! The statements about the encoding. -/

namespace Sys2Proof.Proofs

/-- Settles O1: a word decodes to a micro-operation exactly when it is the encoding of that one. -/
theorem decodeAndEncodeAreInverse : Obligations.DecodeAndEncodeAreInverse := by
  refine ⟨fun i => decode_encode, fun w i => decode_eq_op_iff.mp, fun w hw => ?_⟩
  cases hd : decode w with
  | op i =>
    obtain ⟨hwf, he⟩ := decode_eq_op_iff.mp hd
    exact absurd he (hw i hwf)
  | reserved r => exact ⟨r, rfl⟩

/-- Settles O2: for a micro-operation in range, its row and the operands of the word say that the word is its
encoding. -/
theorem decodeFollowsTheOpcodeMap : Obligations.DecodeFollowsTheOpcodeMap := by
  intro w i
  rw [decode_eq_op_iff, and_left_comm]
  exact and_congr_right encode_eq_iff_row

/-- Settles O3: legal and listed are the same, block by block; a word of the ROM stands at the address of its
micro-operation only. -/
theorem legalWordsAreTheListedOnes : Obligations.LegalWordsAreTheListedOnes := by
  refine ⟨decode_isSome_eq_listedWord, length_filter_listedWord, fun k => ?_, fun i => ?_,
    fun j => decode_acc_word j.isLt, by decide, by decide, by decide, by decide, romContents_nodup, fun a => ?_⟩
  · exact ⟨by simpa using decode_ack_word false k.isLt, decode_ack_word true k.isLt⟩
  · exact ⟨decode_mlo_word i.isLt, decode_mhi_word i.isLt, decode_dec_word i.isLt⟩
  · exact ⟨romContents_ne (i := .ack false 1) (by decide) (by decide) a.isLt,
      romContents_ne (i := .ack true 0) (by decide) (by decide) a.isLt,
      romContents_ne (i := .ack true 2) (by decide) (by decide) a.isLt⟩

/-- Settles O5: each address by the formula of R66 for it. -/
theorem romHoldsTheMicroProgram : Obligations.RomHoldsTheMicroProgram := by
  refine ⟨decode_romContents _ (by decide), decode_romContents _ (by decide), decode_romContents _ (by decide),
    fun i => ⟨decode_romContents _ (romOp_mlo i.isLt), decode_romContents _ (romOp_mhi i.isLt),
      decode_romContents _ (romOp_dec i.isLt)⟩, decode_romContents _ (by decide),
    fun j => decode_romContents _ (romOp_acc j.isLt), decode_romContents _ (by decide),
    decode_romContents _ (by decide), decode_romContents _ (by decide)⟩

/-- Settles O6: each pseudo-operation is the micro-operations of R66 at the addresses of its segment. -/
theorem pseudoOperationsSpellTheRom : Obligations.PseudoOperationsSpellTheRom := by
  refine ⟨rfl, fun i => rfl, rfl, ?_, ?_, ?_, ?_, ?_⟩
  · rw [ackSeq_eq_map, ← romSegment_eq_map (by decide), List.drop_zero]
  · rw [sample_eq_map, romSegment_eq_map (by decide)]
  · rw [decodeSeq_eq_map, romSegment_eq_map (by decide)]
  · rw [validate_eq_map, romSegment_eq_map (by decide)]
  · rw [microProgram_eq_map, ← romSegment_eq_map (by decide), List.drop_zero]
    exact List.take_of_length_le (by simp)

end Sys2Proof.Proofs
end

section
/-! SUPPORT. A guard step and an await micro-operation as record updates of the state before (R80, R91 to R93), and
the number of a word and the word at a ROM address (R60, R66). -/

namespace Sys2Proof.Machine

open Sys2Proof.Claims

/-! The three ways of a guard step. -/

section
variable {l : Level} {s : State}

/-- At its level a wait completes whatever the counter holds. -/
theorem guardStep_of_sample_eq (d : Dest) (hs : s.sample = l) :
    guardStep l d s = { writeDest d s.cnt s with cnt := 0, upc := s.upc + 1, rel := false } := by
  have hdeliver : guardStep l d s = s.deliver d := by simpa [hs] using guardStep_cases l d s
  rw [hdeliver]
  cases d <;> rfl

/-- Up to the bound a counted sample adds one to `CNT`, which does not wrap. -/
theorem State.countOne_eq (hv : s.params.valid = true) (hb : s.cnt.toNat + 1 ≤ s.params.maxIter) :
    s.countOne = { s with cnt := s.cnt + 1, rel := false } := by
  rw [State.countOne, countOf_succ hv hb]

theorem guardStep_of_lt_bound (d : Dest) (hs : s.sample ≠ l) (hv : s.params.valid = true)
    (hb : s.cnt.toNat + 1 < s.params.maxIter) : guardStep l d s = { s with cnt := s.cnt + 1, rel := false } := by
  have hcount : guardStep l d s = s.countOne := by simpa [hs, hb.ne] using guardStep_cases l d s
  rw [hcount, State.countOne_eq hv hb.le]

/-- The counted sample that reaches the bound is the timeout abort (R145). -/
theorem guardStep_of_eq_bound (d : Dest) (hs : s.sample ≠ l) (hv : s.params.valid = true)
    (hb : s.cnt.toNat + 1 = s.params.maxIter) :
    guardStep l d s = { s with
      cnt := s.cnt + 1, err := 1, busy := false, done := true, rel := true,
      ackc := Vector.replicate 3 0, lo := Vector.replicate 40 0, hi := Vector.replicate 40 0 } := by
  have habort : guardStep l d s = s.countOne.raiseTimeout := by simpa [hs, hb] using guardStep_cases l d s
  rw [habort, State.countOne_eq hv hb.le]
  rfl

end

/-! The await micro-operations. -/

theorem awaits_ack (t : Level) (k : Fin 3) : awaits (.ack t (BitVec.ofNat 6 k.val)) = some (t, .ackc k) := by
  simp [awaits, ackIndex_ofNat]

theorem awaits_mlo (i : Fin 40) : awaits (.mlo (BitVec.ofNat 6 i.val)) = some (true, .lo i) := by
  simp [awaits, bitIndex_ofNat]

theorem awaits_mhi (i : Fin 40) : awaits (.mhi (BitVec.ofNat 6 i.val)) = some (false, .hi i) := by
  simp [awaits, bitIndex_ofNat]

/-- An await has the three outcomes of the guard, with its count delivered to its destination. -/
theorem guardOutcome_of_awaits {i : Instr} {l : Level} {d : Dest} (ha : awaits i = some (l, d)) :
    GuardOutcome i l (fun s => writeDest d s.cnt s) := by
  intro s
  rw [exec_await ha]
  exact ⟨fun hs => congrArg _ (guardStep_of_sample_eq d hs),
    fun hs hv hb => congrArg _ (guardStep_of_lt_bound d hs hv hb),
    fun hs hv hb => congrArg _ (guardStep_of_eq_bound d hs hv hb)⟩

/-! The number of a word, and the word at a ROM address. -/

/-- The word is the number `b` of its opcode and level, plus its index. -/
theorem encode_toNat_of_index_eq {i : Instr} {b n : Nat} (hx : i.index = BitVec.ofNat 6 n) (hn : n < 64)
    (hb : i.opcode.toNat * 256 + bitNat i.target * 128 = b) : (encode i).toNat = b + n := by
  rw [encode_toNat, hb, hx, BitVec.toNat_ofNat, Nat.mod_eq_of_lt hn]

theorem romContents_eq_encode {a : Nat} {i : Instr} (ha : a < 131) (hi : romOp a = i) : romContents[a] = encode i := by
  rw [romContents_getElem ha, romWord, hi]

end Sys2Proof.Machine
end

section
/-! The statements about the Pulse Sampler. -/

namespace Sys2Proof.Proofs

open Sys2Proof.Machine

/-- Settles O23: `ACK t,k` awaits level `t` into `ACKC[k]`. -/
theorem ackAwaitsIntoAckc : Obligations.AckAwaitsIntoAckc :=
  ⟨fun t k => ⟨encode_toNat_of_index_eq rfl (by omega) (by simp), guardOutcome_of_awaits (awaits_ack t k)⟩,
    romContents_eq_encode _ (by decide), romContents_eq_encode _ (by decide), romContents_eq_encode _ (by decide)⟩

/-- Settles O24: `MLO i` awaits level 1 into `LO[i]`. -/
theorem mloAwaitsHighIntoLo : Obligations.MloAwaitsHighIntoLo := fun i =>
  ⟨encode_toNat_of_index_eq rfl (by omega) (by simp), romContents_eq_encode _ (romOp_mlo i.isLt),
    guardOutcome_of_awaits (awaits_mlo i)⟩

/-- Settles O25: `MHI i` awaits level 0 into `HI[i]`. -/
theorem mhiAwaitsLowIntoHi : Obligations.MhiAwaitsLowIntoHi := fun i =>
  ⟨encode_toNat_of_index_eq rfl (by omega) (by simp), romContents_eq_encode _ (romOp_mhi i.isLt),
    guardOutcome_of_awaits (awaits_mhi i)⟩

end Sys2Proof.Proofs
end

section
/-! SUPPORT. The sum and the mean of the low phases that enter the Threshold (R100), the Bit and the shift of `DEC`
as numbers (R102 to R104), and where a read stands when it fetches a micro-operation (R66). -/

namespace Sys2Proof.Machine

open Sys2Proof.Claims

/-! The mean of the low phases. -/

theorem sum_drop_ofFn {n : Nat} (f : Fin n → Nat) (k : Nat) :
    ((List.ofFn f).drop k).sum = ∑ j : Fin n, if k ≤ j.val then f j else 0 := by
  induction n generalizing k with
  | zero => simp
  | succ n ih =>
    cases k with
    | zero => simp only [List.drop_zero, List.sum_ofFn, Nat.zero_le, if_true]
    | succ k => simp [List.ofFn_succ, Fin.sum_univ_succ, ih]

theorem lowSumOf_eq (s : State) : lowSumOf s = lowSum s.params.thrSkip s.lo := by
  have hlist : s.lo.toList.map BitVec.toNat = List.ofFn fun j : Fin 40 => s.lo[j.val].toNat :=
    List.ext_getElem (by simp) fun j _ _ => by
      rw [List.getElem_map, Vector.getElem_toList, List.getElem_ofFn]
  rw [lowSum, List.map_drop, hlist, sum_drop_ofFn, lowSumOf]

theorem meanOf_eq (s : State) : meanOf s = lowMean s.params.thrSkip s.lo := by
  rw [meanOf, lowSumOf_eq, lowMean]

/-- The mean is at most any bound on the low phases that enter it: they are 40 − `THR_SKIP` of them. -/
theorem lowMean_le {skip : Nat} {lo : Vector Count 40} {c : Nat}
    (h : ∀ j : Fin 40, skip ≤ j.val → lo[j.val].toNat ≤ c) : lowMean skip lo ≤ c := by
  have hsum : lowSum skip lo ≤ (40 - skip) * c := by
    have hle := List.sum_le_card_nsmul ((lo.toList.drop skip).map BitVec.toNat) c fun x hx => by
      obtain ⟨y, hy, rfl⟩ := List.mem_map.mp hx
      obtain ⟨j, hj, rfl⟩ := List.mem_drop_iff_getElem.mp hy
      exact h ⟨skip + j, by simpa [Nat.add_comm] using hj⟩ (Nat.le_add_right _ _)
    simpa [lowSum] using hle
  exact Nat.div_le_of_le_mul hsum

theorem lowMean_lt_two_pow {s : State} (h : LowCountsFit s) :
    lowMean s.params.thrSkip s.lo < 2 ^ s.params.wCnt :=
  Nat.lt_of_le_pred (Nat.two_pow_pos _) (lowMean_le fun j _ => Nat.le_pred_of_lt (h j))

theorem exec_thr (s : State) :
    exec .thr s = .next { s with
      thresh := countOf s.params (lowMean s.params.thrSkip s.lo), upc := s.upc + 1, rel := false } := rfl

/-! The Bit, and the shift that takes it in. -/

theorem State.bitOf_eq (s : State) (i : Fin 40) :
    s.bitOf i = bitFrom s.params s.thresh.toNat s.hi[i.val].toNat s.lo[i.val].toNat := by
  unfold State.bitOf decideBit bitFrom
  cases s.params.policy with
  | abs => rfl
  | ratio => rfl

theorem bitFrom_ratio {p : Params} (hp : p.policy = .ratio) (th h l : Nat) :
    bitFrom p th h l = true ↔ h > 2 * l := by
  simp [bitFrom, hp]

/-- The bit that leaves at the top is lost in the reduction to 40 bits. -/
theorem shiftIn_eq_ofNat (f : Frame) (b : Bool) : shiftIn f b = BitVec.ofNat 40 (2 * f.toNat + bitNat b) := by
  have := bitNat_le_one b
  apply BitVec.eq_of_toNat_eq
  rw [shiftIn, toNat_append_eq_add, toNat_ofBool_eq_bitNat, BitVec.extractLsb'_toNat, Nat.shiftRight_zero,
    BitVec.toNat_ofNat]
  omega

theorem exec_dec (i : Fin 40) (s : State) :
    exec (.dec (BitVec.ofNat 6 i.val)) s =
      .next { s with sr := shiftIn s.sr (s.bitOf i), upc := s.upc + 1, rel := false } := by
  have hrun : exec (.dec (BitVec.ofNat 6 i.val)) s = execDec (BitVec.ofNat 6 i.val) s := rfl
  rw [hrun, execDec, bitIndex_ofNat, withIndex_some, State.advance]

/-- Under `RATIO`, bit 0 after a `DEC` is the comparison of R104. -/
theorem exec_dec_ratio_getLsbD_zero {i : Fin 40} {s t : State} (hp : s.params.policy = .ratio)
    (h : exec (.dec (BitVec.ofNat 6 i.val)) s = .next t) :
    t.sr.getLsbD 0 = true ↔ s.hi[i.val].toNat > 2 * s.lo[i.val].toNat := by
  rw [exec_dec] at h
  cases h
  rw [shiftIn_getLsbD, if_pos rfl, State.bitOf_eq, bitFrom_ratio hp]

/-! The Bits decided so far in a read. -/

/-- `n` Bits fill the low `n` bits only. -/
theorem State.decided_getLsbD_of_le (s : State) {n k : Nat} (h : n ≤ k) : (s.decided n).getLsbD k = false := by
  induction n generalizing k with
  | zero => exact BitVec.getLsbD_zero
  | succ n ih => rw [State.decided, shiftIn_getLsbD, if_neg (by omega), ih (by omega), Bool.and_false]

/-- A read that fetches a micro-operation stands at its ROM address (R66). -/
theorem State.Inv.upc_of_fetch {s : State} (hs : s.Inv) {i : Instr} (hf : s.fetch = .op i) :
    s.upc.toNat = romAddress i := by
  rw [State.fetch_eq hs.rom hs.upc] at hf
  rw [← Decoded.op.inj hf, romAddress_romOp (Nat.lt_succ_of_le hs.upc)]

/-- What the ROM holds has its operands in range (R61). -/
theorem State.Inv.wellFormed_of_fetch {s : State} (hs : s.Inv) {i : Instr} (hf : s.fetch = .op i) :
    i.WellFormed := by
  have hdecode := decode_romWord ⟨s.upc.toNat, Nat.lt_succ_of_le hs.upc⟩
  rw [← State.fetch_eq hs.rom hs.upc, hf] at hdecode
  exact (decode_eq_op_iff.mp hdecode).1

theorem State.Inv.index_lt_of_fetch_dec {s : State} (hs : s.Inv) {n : Idx} (hf : s.fetch = .op (.dec n)) :
    n.toNat < 40 :=
  wellFormed_iff_index_lt.mp (hs.wellFormed_of_fetch hf)

theorem State.Inv.sr_of_fetch_dec {s : State} (hs : s.Inv) {n : Idx} (hf : s.fetch = .op (.dec n)) :
    s.sr = s.decided n.toNat := by
  have hupc : s.upc.toNat = 84 + n.toNat := hs.upc_of_fetch hf
  rw [hs.data.sr, hupc, Nat.add_sub_cancel_left, Nat.min_eq_left (hs.index_lt_of_fetch_dec hf).le]

/-! The quotient of the two phases (R104). -/

theorem two_mul_lt_iff_two_lt_div {h l : Nat} (hl : l ≠ 0) : 2 * l < h ↔ (2 : ℚ) < (h : ℚ) / (l : ℚ) := by
  rw [lt_div_iff₀ (by exact_mod_cast Nat.pos_of_ne_zero hl)]
  exact_mod_cast Iff.rfl

end Sys2Proof.Machine
end

section
/-! The statements about the Bit Decoder. -/

namespace Sys2Proof.Proofs

open Sys2Proof.Machine Sys2Proof.Claims

/-- Settles O26: the mean is at most the largest count, so `THRESH` keeps it whole. -/
theorem thrWritesTheMeanLowPhase : Obligations.ThrWritesTheMeanLowPhase := by
  refine ⟨by decide, romContents_eq_encode _ (by decide), fun s hv hfit => ?_⟩
  have hmean := lowMean_lt_two_pow hfit
  have hkept := countOf_toNat hv hmean
  exact ⟨countOf s.params (lowMean s.params.thrSkip s.lo), by rw [hkept, meanOf_eq], by rwa [hkept], exec_thr s⟩

/-- Settles O28: at `DEC n` of a read only the low `n` bits of `SR` are filled, and `n` is at most 39. -/
theorem decShiftsInTheDecidedBit : Obligations.DecShiftsInTheDecidedBit := by
  refine ⟨fun s n hs _ hf => ?_, fun i s => ⟨?_, ?_, ?_⟩⟩
  · rw [hs.sr_of_fetch_dec hf]
    exact s.decided_getLsbD_of_le (Nat.le_of_lt_succ (hs.index_lt_of_fetch_dec hf))
  · exact encode_toNat_of_index_eq rfl (by omega) (by simp)
  · exact romContents_eq_encode _ (romOp_dec i.isLt)
  · rw [exec_dec, shiftIn_eq_ofNat, State.bitOf_eq]

/-- Settles O29: the comparison without division is the one of the quotient, and with `l` = 0 it is `h` > 0. -/
theorem ratioPolicyComparesTheQuotient : Obligations.RatioPolicyComparesTheQuotient := by
  intro i s t hp ht
  have hbit := exec_dec_ratio_getLsbD_zero hp ht
  refine ⟨hbit, fun hl => ?_, fun hl => ?_⟩
  · exact hbit.trans (two_mul_lt_iff_two_lt_div (by simpa [BitVec.toNat_eq] using hl))
  · rw [hbit, hl, BitVec.toNat_ne]
    exact Nat.pos_iff_ne_zero

end Sys2Proof.Proofs
end

section
/-! SUPPORT. The addition of `ACC` and the comparison of `CMP` as numbers (R110, R111), and what each of the two
micro-operations writes. -/

namespace Sys2Proof.Machine

/-! The addition. -/

/-- An 8-bit addition is the addition mod 256. -/
theorem add_frameByte_eq_ofNat (c : Byte) (f : Frame) (j : Nat) :
    c + frameByte f j = BitVec.ofNat 8 ((c.toNat + f.toNat / 2 ^ (32 - 8 * j) % 256) % 256) := by
  apply BitVec.eq_of_toNat_eq
  rw [BitVec.toNat_add, frameByte_toNat, BitVec.toNat_ofNat, Nat.mod_mod]

theorem exec_acc (j : Fin 4) (s : State) :
    exec (.acc (BitVec.ofNat 6 j.val)) s =
      .next { s with csum := s.csum + frameByte s.sr j.val, upc := s.upc + 1, rel := false } := by
  have hrun : exec (.acc (BitVec.ofNat 6 j.val)) s = execAcc (BitVec.ofNat 6 j.val) s := rfl
  rw [hrun, execAcc, accIndex_ofNat, withIndex_some, State.advance]

/-! The comparison. -/

/-- Byte 4 is the last byte of the Frame, `SR[7:0]`. -/
theorem checksumHit_iff {c : Byte} {f : Frame} : checksumHit c f = true ↔ c.toNat = f.toNat % 256 := by
  rw [checksumHit, beq_iff_eq, ← BitVec.toNat_inj, frameByte_toNat]
  norm_num

theorem exec_cmp (s : State) :
    exec .cmp s = .next (if checksumHit s.csum s.sr then { s with csok := true }.advance else s.raiseChecksum) := rfl

theorem exec_cmp_of_eq {s : State} (h : s.csum.toNat = s.sr.toNat % 256) :
    exec .cmp s = .next { s with csok := true, upc := s.upc + 1, rel := false } := by
  rw [exec_cmp, if_pos (checksumHit_iff.mpr h)]
  rfl

/-- The checksum abort of R146. -/
theorem exec_cmp_of_ne {s : State} (h : s.csum.toNat ≠ s.sr.toNat % 256) :
    exec .cmp s = .next { s with err := 2, busy := false, done := true, rel := true } := by
  rw [exec_cmp, if_neg (mt checksumHit_iff.mp h)]
  rfl

/-- `CMP` is at ROM address 128, and only a state past it has `CSOK` = 1 (R15, R66). -/
theorem State.Inv.upc_csok_of_fetch_cmp {s : State} (hs : s.Inv) (hf : s.fetch = .op .cmp) :
    s.upc = 128 ∧ s.csok = false := by
  have hupc : s.upc.toNat = 128 := hs.upc_of_fetch hf
  refine ⟨BitVec.eq_of_toNat_eq hupc, ?_⟩
  rw [hs.data.csok, hupc]
  rfl

end Sys2Proof.Machine
end

section
/-! The statements about the Frame Validator. -/

namespace Sys2Proof.Proofs

open Sys2Proof.Machine

/-- Settles O30: the 8-bit addition is the addition mod 256. -/
theorem accAddsTheByteModulo256 : Obligations.AccAddsTheByteModulo256 := by
  refine fun j s => ⟨?_, ?_, ?_⟩
  · exact encode_toNat_of_index_eq rfl (by omega) (by simp)
  · exact romContents_eq_encode _ (romOp_acc j.isLt)
  · rw [exec_acc, add_frameByte_eq_ofNat]

/-- Settles O31: the comparator compares `CSUM` with `SR[7:0]`, and each of its two answers has its writes. -/
theorem cmpComparesWithTheLastByte : Obligations.CmpComparesWithTheLastByte :=
  ⟨by decide, romContents_eq_encode _ (by decide), fun _ hs _ hf => hs.upc_csok_of_fetch_cmp hf,
    fun _ => ⟨exec_cmp_of_eq, exec_cmp_of_ne⟩⟩

end Sys2Proof.Proofs
end

section
/-! SUPPORT. The fields of the Frame that `CNV` reads, as numbers (R121, R122), and what `CNV` writes (R120). -/

namespace Sys2Proof.Machine

open Sys2Proof.Claims

/-! Humidity (R121). -/

theorem frameHumidity_toNat (f : Frame) : (frameHumidity f).toNat = f.toNat / 2 ^ 24 := by
  have := f.isLt
  rw [frameHumidity, BitVec.extractLsb'_toNat, Nat.shiftRight_eq_div_pow]
  omega

theorem frameHumidity_eq_ofNat (f : Frame) : frameHumidity f = BitVec.ofNat 16 (f.toNat / 2 ^ 24) := by
  rw [← frameHumidity_toNat, BitVec.ofNat_toNat, BitVec.setWidth_eq]

theorem frameHumidity_toNat_eq_bytes (f : Frame) :
    (frameHumidity f).toNat = (frameByte f 0).toNat * 256 + (frameByte f 1).toNat := by
  have := f.isLt
  rw [frameHumidity_toNat, frameByte_toNat, frameByte_toNat]
  omega

/-! The magnitude and its sign (R122). -/

theorem frameMagnitude_toNat (f : Frame) : (frameMagnitude f).toNat = magnitudeOf f := by
  rw [frameMagnitude, BitVec.extractLsb'_toNat, Nat.shiftRight_eq_div_pow, magnitudeOf]

theorem magnitudeOf_eq_bytes (f : Frame) :
    magnitudeOf f = (frameByte f 2).toNat % 128 * 256 + (frameByte f 3).toNat := by
  rw [magnitudeOf, frameByte_toNat, frameByte_toNat]
  omega

theorem magnitudeOf_lt (f : Frame) : magnitudeOf f < 2 ^ 15 := Nat.mod_lt _ (by decide)

theorem abs_tenthsOf (f : Frame) : |tenthsOf f| = magnitudeOf f := by
  rw [tenthsOf]
  split
  · rw [abs_neg, Nat.abs_cast]
  · exact Nat.abs_cast _

/-- Plus or minus a 15-bit magnitude. -/
theorem abs_tenthsOf_le (f : Frame) : |tenthsOf f| ≤ 32767 := by
  have := magnitudeOf_lt f
  rw [abs_tenthsOf]
  omega

/-- The negation on 16 bits is the negation of the number. -/
theorem frameTemp_eq_ofInt (f : Frame) : frameTemp f = BitVec.ofInt 16 (tenthsOf f) := by
  have hmag : (frameMagnitude f).setWidth 16 = BitVec.ofInt 16 (magnitudeOf f) := by
    rw [BitVec.ofInt_natCast, ← frameMagnitude_toNat, BitVec.ofNat_toNat]
  rw [frameTemp, tenthsOf, frameSign, hmag]
  split
  · rw [BitVec.ofInt_neg]
    exact BitVec.zero_sub _
  · rfl

/-- 16 bits hold every temperature, so `TEMP` loses nothing. -/
theorem frameTemp_toInt (f : Frame) : (frameTemp f).toInt = tenthsOf f := by
  obtain ⟨hlo, hhi⟩ := abs_le.mp (abs_tenthsOf_le f)
  rw [frameTemp_eq_ofInt, BitVec.toInt_ofInt_eq_self (by decide) (by omega) (by omega)]

/-- The pattern 0x8000 is the one 16-bit number below −32767. -/
theorem frameTemp_ne (f : Frame) : frameTemp f ≠ 0x8000 := by
  obtain ⟨hlo, -⟩ := abs_le.mp (abs_tenthsOf_le f)
  intro h
  rw [← frameTemp_toInt, h] at hlo
  exact absurd hlo (by decide)

/-! The micro-operation. -/

theorem exec_cnv (s : State) :
    exec .cnv s = .next { s with
      hum := frameHumidity s.sr, temp := frameTemp s.sr, rvalid := true, upc := s.upc + 1, rel := false } := rfl

/-- `CNV` is at ROM address 129, and a read past `CMP` holds a validated Frame (R113, R66). -/
theorem State.Inv.validated_of_fetch_cnv {s : State} (hs : s.Inv) (hf : s.fetch = .op .cnv) :
    s.csok = true ∧ frameValid s.sr = true := by
  have hupc : s.upc.toNat = 129 := hs.upc_of_fetch hf
  have hpast : 129 ≤ s.upc.toNat := hupc.ge
  exact ⟨hs.data.csok.trans (decide_eq_true hpast), hs.data.valid hpast⟩

end Sys2Proof.Machine
end

section
/-! The statements about the Reading Converter. -/

namespace Sys2Proof.Proofs

open Sys2Proof.Machine

/-- Settles O32: the two fields of the Frame are the numbers of the Reading, and a read at address 129 is past `CMP`. -/
theorem cnvConvertsTheFrame : Obligations.CnvConvertsTheFrame := by
  refine ⟨by decide, romContents_eq_encode _ (by decide), fun _ hs _ hf => hs.validated_of_fetch_cnv hf, fun s => ?_⟩
  rw [exec_cnv, frameHumidity_eq_ofNat, frameTemp_eq_ofInt]

/-- Settles O33: a 15-bit magnitude and its sign fit 16 bits, and the port extends the sign. -/
theorem readingIsInSignedTenths : Obligations.ReadingIsInSignedTenths := by
  intro s t ht
  obtain ⟨hlo, hhi⟩ := abs_le.mp (abs_tenthsOf_le s.sr)
  rw [exec_cnv] at ht
  cases ht
  have htemp := frameTemp_toInt s.sr
  exact ⟨frameHumidity_toNat_eq_bytes s.sr, magnitudeOf_eq_bytes s.sr, htemp, (State.ins_temp_toInt _).trans htemp,
    hlo.trans_eq htemp.symm, htemp.trans_le hhi, frameTemp_ne s.sr⟩

end Sys2Proof.Proofs
end

section
/-! SUPPORT. The idle step and `FIN` as record updates of the state before (R133, R134), and where a read stands when
it runs `FIN` (R66). -/

namespace Sys2Proof.Machine

open Sys2Proof.Claims

/-- With no reset, no read in flight and no start a step is the idle action (R133). -/
theorem step_idle {s : State} (hv : s.params.valid = true) (hr : s.input.rst = false) (hb : s.busy = false)
    (hs : s.input.start = false) : step s = .next (idleAction s).clock := by
  simp [step, edge, hv, hr, hb, hs]

theorem exec_fin (s : State) :
    exec .fin s = .next { s with busy := false, done := true, err := 0, rel := true } := rfl

/-- `FIN` is at ROM address 130 (R66). -/
theorem State.Inv.upc_of_fetch_fin {s : State} (hs : s.Inv) (hf : s.fetch = .op .fin) : s.upc = 130 :=
  BitVec.eq_of_toNat_eq (hs.upc_of_fetch hf)

/-- Past `CMP` and `CNV` a read has `CSOK` and `RVALID` set and the Reading of its Frame (R14, R15, R121, R122). -/
theorem State.Inv.reading_of_upc {s : State} (hs : s.Inv) (hupc : s.upc = 130) :
    s.rvalid = true ∧ s.csok = true ∧ s.hum.toNat = s.sr.toNat / 2 ^ 24 ∧ s.temp.toInt = tenthsOf s.sr := by
  have hpast : 130 ≤ s.upc.toNat := by rw [hupc]; decide
  have hhum : s.hum = frameHumidity s.sr := hs.data.hum.trans (if_pos hpast)
  have htemp : s.temp = frameTemp s.sr := hs.data.temp.trans (if_pos hpast)
  refine ⟨hs.data.rvalid.trans (decide_eq_true hpast), hs.data.csok.trans (decide_eq_true (by omega)), ?_, ?_⟩
  · rw [hhum, frameHumidity_toNat]
  · rw [htemp, frameTemp_toInt]

end Sys2Proof.Machine
end

section
/-! The statements about the control of the sequencer: the idle step, `start` during a read, and `FIN`. -/

namespace Sys2Proof.Proofs

open Sys2Proof.Machine

/-- Settles O13: the step is the idle action. -/
theorem idleStepWritesOnlyRel : Obligations.IdleStepWritesOnlyRel := fun _ => step_idle

/-- Settles O15: a step reads `start` only where no read is in flight. -/
theorem startIsIgnoredWhileBusy : Obligations.StartIsIgnoredWhileBusy := fun s _ rest _ hb =>
  step_congr_input s rest rfl (fun hidle => absurd (hb.symm.trans hidle) (by decide)) (fun _ _ _ _ => rfl)

/-- Settles O34: a read at `FIN` stands at address 130, past `CMP` and `CNV`. -/
theorem finEndsASuccessfulRead : Obligations.FinEndsASuccessfulRead := by
  refine ⟨by decide, romContents_eq_encode _ (by decide), fun s hs _ hf => ?_, exec_fin⟩
  have hupc := hs.upc_of_fetch_fin hf
  exact ⟨hupc, hs.reading_of_upc hupc⟩

end Sys2Proof.Proofs
end

section
/-! The statement about the priority of a reset, with the reset step as a record update of the reset state. -/

namespace Sys2Proof.Machine

/-- A reset keeps the parameters and the ROM and writes every register (R30, R170); the clock takes the next input. -/
theorem clock_resetAction (s : State) : (resetAction s).clock =
    { State.resetWith s.params with rom := s.rom, inputs := s.inputs.tail, tick := s.tick + 1 } := rfl

end Sys2Proof.Machine

namespace Sys2Proof.Proofs

open Sys2Proof.Machine

/-- Settles O11: the step is the reset action with the clock moved on. -/
theorem resetHasTheHighestPriority : Obligations.ResetHasTheHighestPriority := by
  intro s hv hr
  rw [step_reset hv hr, clock_resetAction]

end Sys2Proof.Proofs
end

section
/-! SUPPORT. The invariant (R33): which registers it reads, and how the reset values and each micro-operation of a
read in flight keep it. -/

namespace Sys2Proof.Machine

open Sys2Proof.Claims

/-! The inversion of `exec`. -/

/-- Everything a micro-operation with a next state can do (R130). -/
theorem exec_cases {i : Instr} {s t : State} (h : exec i s = .next t) :
    (∃ l d, awaits i = some (l, d) ∧ t = guardStep l d s) ∨
    (i = .thr ∧ t = { s with thresh := countOf s.params (lowMean s.params.thrSkip s.lo) }.advance) ∨
    (∃ n k, i = .dec n ∧ n.toNat = k.val ∧ t = { s with sr := shiftIn s.sr (s.bitOf k) }.advance) ∨
    (∃ n, ∃ j : Fin 4, i = .acc n ∧ n.toNat = j.val ∧
      t = { s with csum := s.csum + frameByte s.sr j.val }.advance) ∨
    (i = .cmp ∧ checksumHit s.csum s.sr = true ∧ t = { s with csok := true }.advance) ∨
    (i = .cmp ∧ checksumHit s.csum s.sr = false ∧ t = s.raiseChecksum) ∨
    (i = .cnv ∧ t = { s with hum := frameHumidity s.sr, temp := frameTemp s.sr, rvalid := true }.advance) ∨
    (i = .fin ∧ t = s.terminate .none) := by
  cases i with
  | ack l k => obtain ⟨n, hn, e⟩ := withIndex_eq_next.mp h; cases e; simp [awaits, hn]
  | mlo k => obtain ⟨n, hn, e⟩ := withIndex_eq_next.mp h; cases e; simp [awaits, hn]
  | mhi k => obtain ⟨n, hn, e⟩ := withIndex_eq_next.mp h; cases e; simp [awaits, hn]
  | thr => cases h; simp
  | dec k =>
    obtain ⟨n, hn, e⟩ := withIndex_eq_next.mp h
    cases e
    exact .inr (.inr (.inl ⟨k, n, rfl, bitIndex_eq_some.mp hn, rfl⟩))
  | acc k =>
    obtain ⟨n, hn, e⟩ := withIndex_eq_next.mp h
    cases e
    exact .inr (.inr (.inr (.inl ⟨k, n, rfl, accIndex_eq_some.mp hn, rfl⟩)))
  | cmp =>
    cases h
    cases hhit : checksumHit s.csum s.sr <;> simp
  | cnv => cases h; simp
  | fin => cases h; simp

/-- The waits stand at the first 83 addresses of the ROM (R66, R94). -/
theorem romAddress_le_of_awaits {i : Instr} {l : Level} {d : Dest} (ha : awaits i = some (l, d)) :
    romAddress i ≤ 82 := by
  cases i with
  | ack t k =>
    obtain ⟨n, hn, -⟩ := Option.map_eq_some_iff.mp ha
    have hk := ackIndex_eq_some.mp hn
    simp only [romAddress]
    omega
  | mlo k | mhi k =>
    obtain ⟨n, hn, -⟩ := Option.map_eq_some_iff.mp ha
    have hk := bitIndex_eq_some.mp hn
    simp only [romAddress]
    omega
  | thr | dec | acc | cmp | cnv | fin => cases ha

/-! What the predicates of the invariant read. -/

theorem State.bitOf_congr {s t : State} (hp : t.params = s.params) (hth : t.thresh = s.thresh) (hlo : t.lo = s.lo)
    (hhi : t.hi = s.hi) : t.bitOf = s.bitOf := by
  funext i
  simp only [State.bitOf, ptRead, hp, hth, hlo, hhi]

theorem State.decided_of_bitOf_eq {s t : State} (h : t.bitOf = s.bitOf) (n : Nat) : t.decided n = s.decided n := by
  induction n with
  | zero => rfl
  | succ n ih => rw [State.decided, State.decided, ih, h]

/-- The Bits depend on the PulseTrain, the Threshold and the parameters (R106); by default these are the same. -/
theorem State.decided_congr {s t : State} (n : Nat) (hp : t.params = s.params := by rfl)
    (hth : t.thresh = s.thresh := by rfl) (hlo : t.lo = s.lo := by rfl) (hhi : t.hi = s.hi := by rfl) :
    t.decided n = s.decided n :=
  State.decided_of_bitOf_eq (State.bitOf_congr hp hth hlo hhi) n

theorem State.decided_succ (s : State) (i : Fin 40) :
    s.decided (i.val + 1) = shiftIn (s.decided i.val) (s.bitOf i) := by
  rw [State.decided, dif_pos i.isLt]

/-- The datapath predicate reads no register that controls the read, and nothing from outside. -/
theorem State.DatapathAt.of_control {s : State} {n : Nat} (h : s.DatapathAt n) (upc : BitVec 8)
    (busy done rel : Bool) (err : BitVec 3) (cnt : Count) (ackc : Vector Count 3) (inputs : List Inputs) (tick : Nat) :
    State.DatapathAt { s with
      upc := upc, busy := busy, done := done, rel := rel, err := err, cnt := cnt, ackc := ackc, inputs := inputs,
      tick := tick } n where
  thresh := h.thresh
  sr     := h.sr.trans (State.decided_congr _)
  csum   := h.csum
  csok   := h.csok
  valid  := h.valid
  rvalid := h.rvalid
  hum    := h.hum
  temp   := h.temp

theorem State.datapathAt_iff {s : State} {n : Nat} :
    s.DatapathAt n ↔ s.thresh.toNat = (if n ≤ 83 then 0 else lowMean s.params.thrSkip s.lo) ∧
      s.sr = s.decided (min (n - 84) 40) ∧ s.csum = partialSum s.sr (min (n - 124) 4) ∧ s.csok = decide (129 ≤ n) ∧
      (129 ≤ n → frameValid s.sr = true) ∧ s.rvalid = decide (130 ≤ n) ∧
      s.hum = (if 130 ≤ n then frameHumidity s.sr else 0) ∧ s.temp = (if 130 ≤ n then frameTemp s.sr else 0) :=
  ⟨fun ⟨h1, h2, h3, h4, h5, h6, h7, h8⟩ => ⟨h1, h2, h3, h4, h5, h6, h7, h8⟩,
    fun ⟨h1, h2, h3, h4, h5, h6, h7, h8⟩ => ⟨h1, h2, h3, h4, h5, h6, h7, h8⟩⟩

/-- Up to `THR` the datapath holds nothing, whatever the counts are (R32). -/
theorem State.datapathAt_iff_zero {s : State} {n : Nat} (hn : n ≤ 83) :
    s.DatapathAt n ↔ s.thresh = 0 ∧ s.sr = 0 ∧ s.csum = 0 ∧ s.csok = false ∧ s.rvalid = false ∧ s.hum = 0 ∧
      s.temp = 0 := by
  have hsr : min (n - 84) 40 = 0 := by omega
  have hcsum : min (n - 124) 4 = 0 := by omega
  have hcmp : ¬ 129 ≤ n := by omega
  have hcnv : ¬ 130 ≤ n := by omega
  simp [State.datapathAt_iff, hn, hsr, hcsum, hcmp, hcnv, State.decided, partialSum, ← BitVec.toNat_inj]

/-- From `THR` to the first `ACC` the datapath holds the Threshold and the Bits decided so far (R100, R105). -/
theorem State.datapathAt_iff_deciding {s : State} {n : Nat} (hn : n ≤ 40) :
    s.DatapathAt (84 + n) ↔ s.thresh.toNat = lowMean s.params.thrSkip s.lo ∧ s.sr = s.decided n ∧ s.csum = 0 ∧
      s.csok = false ∧ s.rvalid = false ∧ s.hum = 0 ∧ s.temp = 0 := by
  have hthr : ¬ 84 + n ≤ 83 := by omega
  have hsr : min (84 + n - 84) 40 = n := by omega
  have hcsum : min (84 + n - 124) 4 = 0 := by omega
  have hcmp : ¬ 129 ≤ 84 + n := by omega
  have hcnv : ¬ 130 ≤ 84 + n := by omega
  simp only [State.datapathAt_iff, hthr, hsr, hcsum, hcmp, hcnv, partialSum]
  simp

/-- From the first `ACC` to `CMP` it holds the Frame and the bytes added so far (R105, R112). -/
theorem State.datapathAt_iff_adding {s : State} {j : Nat} (hj : j ≤ 4) :
    s.DatapathAt (124 + j) ↔ s.thresh.toNat = lowMean s.params.thrSkip s.lo ∧ s.sr = s.decided 40 ∧
      s.csum = partialSum s.sr j ∧ s.csok = false ∧ s.rvalid = false ∧ s.hum = 0 ∧ s.temp = 0 := by
  have hthr : ¬ 124 + j ≤ 83 := by omega
  have hsr : min (124 + j - 84) 40 = 40 := by omega
  have hcsum : min (124 + j - 124) 4 = j := by omega
  have hcmp : ¬ 129 ≤ 124 + j := by omega
  have hcnv : ¬ 130 ≤ 124 + j := by omega
  simp only [State.datapathAt_iff, hthr, hsr, hcsum, hcmp, hcnv]
  simp

theorem set_toNat_lt {n m : Nat} {counts : Vector Count n} {v : Count} (h : ∀ j : Fin n, counts[j.val].toNat < m)
    (hv : v.toNat < m) (i j : Fin n) : (counts.set i.val v)[j.val].toNat < m := by
  rw [Vector.getElem_set]
  split
  · exact hv
  · exact h j

theorem State.CountsDelivered.writeDest {s : State} {v : Count} (h : s.CountsDelivered)
    (hv : v.toNat < s.params.maxIter) (d : Dest) : (writeDest d v s).CountsDelivered := by
  obtain ⟨hack, hlo, hhi⟩ := h
  cases d with
  | ackc k => exact ⟨set_toNat_lt hack hv k, hlo, hhi⟩
  | lo i => exact ⟨hack, set_toNat_lt hlo hv i, hhi⟩
  | hi i => exact ⟨hack, hlo, set_toNat_lt hhi hv i⟩

theorem State.trainClear_of_eq {s : State} (hack : s.ackc = Vector.replicate 3 0) (hlo : s.lo = Vector.replicate 40 0)
    (hhi : s.hi = Vector.replicate 40 0) : s.TrainClear := by
  simp [State.TrainClear, hack, hlo, hhi]

theorem State.TrainClear.countsDelivered {s : State} (h : s.TrainClear) (hm : 1 ≤ s.params.maxIter) :
    s.CountsDelivered := by
  obtain ⟨hack, hlo, hhi⟩ := h
  simp only [State.CountsDelivered, hack, hlo, hhi]
  simpa [Nat.lt_iff_add_one_le] using hm

/-! The steps that run no micro-operation. -/

/-- The reset values of a build in range, with or without a read begun (R30, R131). -/
theorem inv_resetWith {p : Params} (hp : p.valid = true) (busy : Bool) :
    State.Inv { State.resetWith p with busy := busy } := by
  obtain ⟨-, -, hm, -, -⟩ := Params.valid_iff.mp hp
  have hclear : State.TrainClear { State.resetWith p with busy := busy } := State.trainClear_of_eq rfl rfl rfl
  exact {
    params  := hp
    rom     := rfl
    upc     := Nat.zero_le _
    flags   := fun h => absurd h.2 Bool.false_ne_true
    rel     := fun h => absurd h Bool.false_ne_true
    cnt     := fun _ => ⟨hm, fun _ => rfl⟩
    counts  := hclear.countsDelivered hm
    data    := (State.datapathAt_iff_zero (Nat.zero_le _)).mpr ⟨rfl, rfl, rfl, rfl, rfl, rfl, rfl⟩
    pending := fun _ => rfl
    fresh   := fun _ _ => ⟨rfl, rfl, hclear⟩
    ended   := fun h => absurd h Bool.false_ne_true }

section
variable {s : State}

/-- The invariant is about no input and no edge. -/
theorem State.Inv.of_inputs (hs : s.Inv) (inputs : List Inputs) (tick : Nat) :
    State.Inv { s with inputs := inputs, tick := tick } :=
  { hs with data := hs.data.of_control .. }

theorem State.Inv.clock (hs : s.Inv) : s.clock.Inv := hs.of_inputs ..

theorem State.Inv.resetAction (hs : s.Inv) : (resetAction s).Inv := by
  have hclear : Machine.resetAction s = { State.resetWith s.params with inputs := s.inputs, tick := s.tick } := by
    rw [Machine.resetAction, State.clear, hs.rom]; rfl
  rw [hclear]
  exact (inv_resetWith hs.params false).of_inputs ..

theorem State.Inv.startAction (hs : s.Inv) : (startAction s).Inv := by
  have hclear : Machine.startAction s =
      { State.resetWith s.params with busy := true, inputs := s.inputs, tick := s.tick } := by
    rw [Machine.startAction, State.clear, hs.rom]; rfl
  rw [hclear]
  exact (inv_resetWith hs.params true).of_inputs ..

theorem State.Inv.idleAction (hs : s.Inv) : (idleAction s).Inv :=
  { hs with rel := fun h => absurd h Bool.false_ne_true, data := hs.data.of_control .. }

/-! A guard step. -/

theorem State.Inv.done_of_busy (hs : s.Inv) (hb : s.busy = true) : s.done = false :=
  Bool.eq_false_of_not_eq_true fun hd => hs.flags ⟨hb, hd⟩

theorem State.Inv.deliver (hs : s.Inv) (hb : s.busy = true) (hu : s.upc.toNat ≤ 82) (d : Dest) :
    (s.deliver d).Inv := by
  have hd := hs.done_of_busy hb
  have hupc : (s.upc + 1).toNat = s.upc.toNat + 1 := by bv_omega
  obtain ⟨-, -, hm, -, -⟩ := Params.valid_iff.mp hs.params
  exact {
    params  := by simpa using hs.params
    rom     := by simpa using hs.rom
    upc     := by simp only [State.deliver_upc]; omega
    flags   := by simp [hd]
    rel     := by simp
    cnt     := by simp; omega
    counts  := hs.counts.writeDest (hs.cnt hb).1 d
    data    := by
      have hzero := (State.datapathAt_iff_zero (by omega)).mp hs.data
      rw [State.deliver_upc, State.datapathAt_iff_zero (by omega)]
      simpa using hzero
    pending := by simpa using hs.pending
    fresh   := by simp [hb]
    ended   := by simp [hd] }

theorem State.Inv.countOne (hs : s.Inv) (hb : s.busy = true) (hu : s.upc.toNat ≤ 82)
    (hm : s.cnt.toNat + 1 ≠ s.params.maxIter) : s.countOne.Inv := by
  have hlt := (hs.cnt hb).1
  have hbound : s.cnt.toNat + 1 < s.params.maxIter := by omega
  rw [State.countOne_eq hs.params hbound.le]
  exact { hs with
    rel   := fun h => absurd h Bool.false_ne_true
    cnt   := fun _ => ⟨by bv_omega, fun h => absurd (h.trans hu) (by decide)⟩
    data  := hs.data.of_control ..
    fresh := fun h => absurd (hb.symm.trans h) (by decide)
    ended := fun h => absurd ((hs.done_of_busy hb).symm.trans h) (by decide) }

/-- The timeout abort, whatever the counter holds: it leaves the counter at its bound and discards the counts. -/
theorem State.Inv.raiseTimeout (hs : s.Inv) (hu : s.upc.toNat ≤ 82) (hm : s.cnt.toNat + 1 = s.params.maxIter) :
    s.countOne.raiseTimeout.Inv := by
  obtain ⟨-, -, hpos, hfit, -⟩ := Params.valid_iff.mp hs.params
  have hclear : s.countOne.raiseTimeout.TrainClear := State.trainClear_of_eq rfl rfl rfl
  have hcnt : s.countOne.cnt.toNat = s.params.maxIter := (countOf_toNat hs.params (hm.trans_lt hfit)).trans hm
  exact {
    params  := hs.params
    rom     := hs.rom
    upc     := hs.upc
    flags   := fun h => absurd h.1 Bool.false_ne_true
    rel     := fun _ => rfl
    cnt     := fun h => absurd h Bool.false_ne_true
    counts  := hclear.countsDelivered hpos
    data    := by
      have hzero := (State.datapathAt_iff_zero (by omega)).mp hs.data
      exact (State.datapathAt_iff_zero (Nat.le_succ_of_le hu)).mpr hzero
    pending := fun h => absurd h (by simp)
    fresh   := fun _ h => absurd h (by simp)
    ended   := fun _ => .inr (.inl ⟨rfl, hu, hcnt, hclear⟩) }

/-- A guard step at one of the 83 waits (R80, R94). -/
theorem State.Inv.guardStep (hs : s.Inv) (hb : s.busy = true) (hu : s.upc.toNat ≤ 82) (l : Level) (d : Dest) :
    (guardStep l d s).Inv := by
  rcases guardStep_cases l d s with ⟨-, e⟩ | ⟨-, hm, e⟩ | ⟨-, hm, e⟩ <;> rw [e]
  · exact hs.deliver hb hu d
  · exact hs.raiseTimeout hu hm
  · exact hs.countOne hb hu hm

/-! The computing micro-operations. -/

/-- A micro-operation that writes the datapath and completes keeps the invariant when the datapath is right for the
next address (R132). -/
theorem State.Inv.advance_of_data (hs : s.Inv) (hb : s.busy = true) (hlo : 83 ≤ s.upc.toNat)
    (hhi : s.upc.toNat ≤ 129) {thresh : Count} {sr : Frame} {csum : Byte} {csok rvalid : Bool} {hum temp : BitVec 16}
    (hdata : State.DatapathAt { s with
      thresh := thresh, sr := sr, csum := csum, csok := csok, rvalid := rvalid, hum := hum, temp := temp }
      (s.upc.toNat + 1)) :
    State.Inv (State.advance { s with
      thresh := thresh, sr := sr, csum := csum, csok := csok, rvalid := rvalid, hum := hum, temp := temp }) := by
  have hd := hs.done_of_busy hb
  have hupc : (s.upc + 1).toNat = s.upc.toNat + 1 := by bv_omega
  obtain ⟨hcnt, hzero⟩ := hs.cnt hb
  exact {
    params  := hs.params
    rom     := hs.rom
    upc     := by simp only [State.advance_upc]; omega
    flags   := hs.flags
    rel     := fun h => absurd h Bool.false_ne_true
    cnt     := fun _ => ⟨hcnt, fun _ => hzero hlo⟩
    counts  := hs.counts
    data    := by
      rw [State.advance_upc, hupc]
      exact hdata.of_control ..
    pending := hs.pending
    fresh   := fun h => absurd (hb.symm.trans h) (by decide)
    ended   := fun h => absurd (hd.symm.trans h) (by decide) }

/-- A termination keeps the invariant when the state it leaves is one of the outcomes. -/
theorem State.Inv.terminate (hs : s.Inv) {e : ErrName} (hout : (s.terminate e).Outcome) : (s.terminate e).Inv :=
  { hs with
    flags   := fun h => absurd h.1 Bool.false_ne_true
    rel     := fun _ => rfl
    cnt     := fun h => absurd h Bool.false_ne_true
    data    := hs.data.of_control ..
    pending := fun h => absurd h (by simp)
    fresh   := fun _ h => absurd h (by simp)
    ended   := fun _ => hout }

theorem State.Inv.lowCountsFit (hs : s.Inv) : LowCountsFit s := by
  obtain ⟨-, -, -, hfit, -⟩ := Params.valid_iff.mp hs.params
  exact fun j => (hs.counts.2.1 j).trans hfit

/-- At `CMP` the comparator's answer is the verdict on the Frame (R111, R113). -/
theorem State.Inv.checksumHit_eq_frameValid (hs : s.Inv) (hupc : s.upc.toNat = 128) :
    checksumHit s.csum s.sr = frameValid s.sr := by
  have hdata := hs.data
  rw [hupc, State.datapathAt_iff_adding (j := 4) le_rfl, partialSum_four] at hdata
  obtain ⟨-, -, hcsum, -⟩ := hdata
  rw [hcsum]
  rfl

section
variable (hs : s.Inv) (hb : s.busy = true)
include hs hb

theorem State.Inv.thr (hupc : s.upc.toNat = 83) :
    ({ s with thresh := countOf s.params (lowMean s.params.thrSkip s.lo) }.advance).Inv := by
  have hmean : (countOf s.params (lowMean s.params.thrSkip s.lo)).toNat = lowMean s.params.thrSkip s.lo :=
    countOf_toNat hs.params (lowMean_lt_two_pow hs.lowCountsFit)
  have hdata := hs.data
  rw [hupc, State.datapathAt_iff_zero le_rfl] at hdata
  obtain ⟨-, hrest⟩ := hdata
  refine hs.advance_of_data hb (by omega) (by omega) ?_
  rw [hupc]
  exact (State.datapathAt_iff_deciding (n := 0) (by omega)).mpr ⟨hmean, hrest⟩

theorem State.Inv.dec {i : Fin 40} (hupc : s.upc.toNat = 84 + i.val) :
    ({ s with sr := shiftIn s.sr (s.bitOf i) }.advance).Inv := by
  have hdata := hs.data
  rw [hupc, State.datapathAt_iff_deciding i.isLt.le] at hdata
  obtain ⟨hthresh, hsr, hrest⟩ := hdata
  refine hs.advance_of_data hb (by omega) (by omega) ?_
  rw [hupc, Nat.add_assoc, State.datapathAt_iff_deciding i.isLt]
  refine ⟨hthresh, ?_, hrest⟩
  rw [hsr, ← State.decided_succ]
  exact (State.decided_congr _).symm

theorem State.Inv.acc {j : Fin 4} (hupc : s.upc.toNat = 124 + j.val) :
    ({ s with csum := s.csum + frameByte s.sr j.val }.advance).Inv := by
  have hdata := hs.data
  rw [hupc, State.datapathAt_iff_adding j.isLt.le] at hdata
  obtain ⟨hthresh, hsr, hcsum, hrest⟩ := hdata
  refine hs.advance_of_data hb (by omega) (by omega) ?_
  rw [hupc, Nat.add_assoc, State.datapathAt_iff_adding j.isLt]
  refine ⟨hthresh, hsr.trans (State.decided_congr _).symm, ?_, hrest⟩
  rw [partialSum, hcsum]

theorem State.Inv.cmp_hit (hupc : s.upc.toNat = 128) (hhit : checksumHit s.csum s.sr = true) :
    ({ s with csok := true }.advance).Inv := by
  have hvalid := hs.checksumHit_eq_frameValid hupc
  have hdata := hs.data
  rw [hupc] at hdata
  obtain ⟨hthresh, hsr, hcsum, -, -, hrvalid, hhum, htemp⟩ := hdata
  refine hs.advance_of_data hb (by omega) (by omega) ?_
  rw [hupc]
  exact ⟨hthresh, hsr.trans (State.decided_congr _).symm, hcsum, rfl, fun _ => hvalid.symm.trans hhit, hrvalid, hhum,
    htemp⟩

theorem State.Inv.cmp_miss (hupc : s.upc.toNat = 128) (hmiss : checksumHit s.csum s.sr = false) :
    s.raiseChecksum.Inv := by
  have hvalid := hs.checksumHit_eq_frameValid hupc
  exact hs.terminate (.inr (.inr
    ⟨rfl, BitVec.eq_of_toNat_eq hupc, (hs.cnt hb).2 (by omega), hvalid.symm.trans hmiss⟩))

theorem State.Inv.cnv (hupc : s.upc.toNat = 129) :
    ({ s with hum := frameHumidity s.sr, temp := frameTemp s.sr, rvalid := true }.advance).Inv := by
  have hdata := hs.data
  rw [hupc] at hdata
  obtain ⟨hthresh, hsr, hcsum, hcsok, hvalid, -, -, -⟩ := hdata
  refine hs.advance_of_data hb (by omega) (by omega) ?_
  rw [hupc]
  exact ⟨hthresh, hsr.trans (State.decided_congr _).symm, hcsum, hcsok, fun _ => hvalid le_rfl, rfl, rfl, rfl⟩

theorem State.Inv.fin (hupc : s.upc.toNat = 130) : (s.terminate .none).Inv :=
  hs.terminate (.inl ⟨rfl, BitVec.eq_of_toNat_eq hupc, (hs.cnt hb).2 (by omega)⟩)

/-- In a read every micro-operation runs at its own ROM address, so it keeps the invariant (R66). -/
theorem State.Inv.of_exec {i : Instr} {u : State} (hf : s.fetch = .op i) (h : exec i s = .next u) : u.Inv := by
  have hupc := hs.upc_of_fetch hf
  obtain ⟨l, d, ha, rfl⟩ | ⟨rfl, rfl⟩ | ⟨n, k, rfl, hn, rfl⟩ | ⟨n, j, rfl, hn, rfl⟩ | ⟨rfl, hhit, rfl⟩ |
    ⟨rfl, hmiss, rfl⟩ | ⟨rfl, rfl⟩ | ⟨rfl, rfl⟩ := exec_cases h
  · exact hs.guardStep hb (hupc.trans_le (romAddress_le_of_awaits ha)) l d
  · exact hs.thr hb hupc
  · exact hs.dec hb (hupc.trans (congrArg _ hn))
  · exact hs.acc hb (hupc.trans (congrArg _ hn))
  · exact hs.cmp_hit hb hupc hhit
  · exact hs.cmp_miss hb hupc hmiss
  · exact hs.cnv hb hupc
  · exact hs.fin hb hupc

end
end

/-- Every step keeps the invariant: the three that run no micro-operation, and the one that does (R130). -/
theorem State.Inv.of_step {s t : State} (hs : s.Inv) (h : step s = .next t) : t.Inv := by
  obtain ⟨-, ⟨-, rfl⟩ | ⟨-, -, -, rfl⟩ | ⟨-, -, -, rfl⟩ | ⟨-, hb, i, u, hf, hu, rfl⟩⟩ := step_cases h
  · exact hs.resetAction.clock
  · exact hs.startAction.clock
  · exact hs.idleAction.clock
  · exact (hs.of_exec hb hf hu).clock

theorem State.Inv.of_stepN {n : Nat} {s t : State} (hs : s.Inv) (h : stepN n s = .next t) : t.Inv := by
  induction n generalizing s with
  | zero => cases h; exact hs
  | succ n ih =>
    obtain ⟨u, hu, hrest⟩ := stepN_succ_inv h
    exact ih (hs.of_step hu) hrest

end Sys2Proof.Machine
end

section
/-! The statements about the invariant itself. -/

namespace Sys2Proof.Proofs

open Sys2Proof.Machine

/-- Settles O46: every register is 0, so nothing is claimed of a datapath or an outcome. -/
theorem resetStateHasTheInvariant : Obligations.ResetStateHasTheInvariant :=
  ⟨fun _ hp => inv_resetWith hp false, inv_resetWith (by decide) false⟩

/-- Settles O47: a read runs each micro-operation at its own ROM address, and there each keeps the invariant. -/
theorem everyStepKeepsTheInvariant : Obligations.EveryStepKeepsTheInvariant := fun _ _ hs h => hs.of_step h

end Sys2Proof.Proofs
end

section
/-! SUPPORT. When a micro-operation has a next state (R7, R70), the start action and the idle steps (R131, R133), and
what the state after a reset or a start depends on (R32). -/

namespace Sys2Proof.Machine

open Sys2Proof.Claims

/-! Operands in range, and out of range (R61, R70). -/

theorem withIndex_next_of_ne_none {α : Type} {x : Option α} (hx : x ≠ none) (f : α → State) :
    ∃ t, withIndex x (fun a => .next (f a)) = .next t := by
  obtain ⟨a, rfl⟩ := Option.ne_none_iff_exists'.mp hx
  exact ⟨f a, rfl⟩

theorem withIndex_refused {α : Type} {x : Option α} (hx : x = none) (k : α → Result) :
    withIndex x k = .refused .reservedWord := by
  rw [hx, withIndex_none]

/-- With its operands in range a micro-operation has a next state in every state (R7). -/
theorem exec_next_of_wellFormed {i : Instr} (hwf : i.WellFormed) (s : State) : ∃ t, exec i s = .next t := by
  have hx := wellFormed_iff_index_lt.mp hwf
  cases i with
  | ack l k => exact withIndex_next_of_ne_none (mt ackIndex_eq_none.mp hx.not_ge) _
  | mlo k => exact withIndex_next_of_ne_none (mt bitIndex_eq_none.mp hx.not_ge) _
  | mhi k => exact withIndex_next_of_ne_none (mt bitIndex_eq_none.mp hx.not_ge) _
  | dec k => exact withIndex_next_of_ne_none (mt bitIndex_eq_none.mp hx.not_ge) _
  | acc k => exact withIndex_next_of_ne_none (mt accIndex_eq_none.mp hx.not_ge) _
  | thr => exact ⟨_, rfl⟩
  | cmp => exact ⟨_, rfl⟩
  | cnv => exact ⟨_, rfl⟩
  | fin => exact ⟨_, rfl⟩

/-- The model's own choice (log entry 8). -/
theorem exec_refused_of_not_wellFormed {i : Instr} (hwf : ¬ i.WellFormed) (s : State) :
    exec i s = .refused .reservedWord := by
  have hx := Nat.le_of_not_lt (mt wellFormed_iff_index_lt.mpr hwf)
  cases i with
  | ack l k => exact withIndex_refused (ackIndex_eq_none.mpr hx) _
  | mlo k => exact withIndex_refused (bitIndex_eq_none.mpr hx) _
  | mhi k => exact withIndex_refused (bitIndex_eq_none.mpr hx) _
  | dec k => exact withIndex_refused (bitIndex_eq_none.mpr hx) _
  | acc k => exact withIndex_refused (accIndex_eq_none.mpr hx) _
  | thr => exact absurd hx (by decide)
  | cmp => exact absurd hx (by decide)
  | cnv => exact absurd hx (by decide)
  | fin => exact absurd hx (by decide)

/-! The fetch (R45). -/

theorem romDecode_of_gt (rom : Vector MicroWord 131) {a : Nat} (ha : 130 < a) :
    romDecode rom a = .reserved .noWord := by
  rw [romDecode, Vector.getElem?_eq_none ha]

/-- Whatever the ROM holds, a fetched micro-operation has its operands in range: no other word decodes (R73). -/
theorem wellFormed_of_fetch {s : State} {i : Instr} (hf : s.fetch = .op i) : i.WellFormed := by
  unfold State.fetch romDecode at hf
  split at hf
  · exact (decode_eq_op_iff.mp hf).1
  · cases hf

section
variable {s : State} (hv : s.params.valid = true) (hr : s.input.rst = false)
include hv hr

theorem step_reserved (hb : s.busy = true) (hf : ∀ i, s.fetch ≠ .op i) : step s = .refused .reservedWord := by
  cases h : s.fetch with
  | op i => exact absurd h (hf i)
  | reserved r => simp [step, edge, hv, hr, hb, h]

/-- With a read in flight a step is the fetched micro-operation, which has a next state (R130). -/
theorem step_exec {i : Instr} (hb : s.busy = true) (hf : s.fetch = .op i) :
    ∃ t, exec i s = .next t ∧ step s = .next t.clock := by
  obtain ⟨t, ht⟩ := exec_next_of_wellFormed (wellFormed_of_fetch hf) s
  exact ⟨t, ht, by rw [step_op hv hr hb hf, ht, clocked_next]⟩

theorem step_start (hb : s.busy = false) (hs : s.input.start = true) : step s = .next (startAction s).clock := by
  simp [step, edge, hv, hr, hb, hs]

end

/-- The engine never stops: the ROM holds no reserved word (R7, R70). -/
theorem State.Inv.exists_step {s : State} (hs : s.Inv) : ∃ t, step s = .next t := by
  cases hr : s.input.rst with
  | true => exact ⟨_, step_reset hs.params hr⟩
  | false =>
    cases hb : s.busy with
    | true =>
      obtain ⟨t, -, ht⟩ := step_exec hs.params hr hb (State.fetch_eq hs.rom hs.upc)
      exact ⟨_, ht⟩
    | false =>
      cases hst : s.input.start with
      | true => exact ⟨_, step_start hs.params hr hb hst⟩
      | false => exact ⟨_, step_idle hs.params hr hb hst⟩

/-! Idle steps one after another (R133). -/

section
variable {s : State} (hv : s.params.valid = true) (hb : s.busy = false)
include hv hb

theorem step_quiet {x : Inputs} {rest : List Inputs} (hin : s.inputs = x :: rest)
    (hx : x.rst = false ∧ x.start = false) :
    step s = .next { s with rel := false, inputs := rest, tick := s.tick + 1 } := by
  have hinput : s.input = x := State.input_of_cons hin
  rw [step_idle hv (hinput ▸ hx.1) hb (hinput ▸ hx.2), State.clock, idleAction, hin, List.tail_cons]

/-- Once `REL` is 0, idle steps only take their inputs. -/
theorem stepN_quiet (hrel : s.rel = false) {quiet rest : List Inputs} (hin : s.inputs = quiet ++ rest)
    (hq : ∀ x ∈ quiet, x.rst = false ∧ x.start = false) :
    stepN quiet.length s = .next { s with inputs := rest, tick := s.tick + quiet.length } := by
  induction quiet generalizing s with
  | nil => cases s; cases hin; rfl
  | cons x xs ih =>
    rw [List.length_cons, stepN_succ _ (step_quiet hv hb hin (hq x List.mem_cons_self)),
      ih (by exact hv) (by exact hb) rfl rfl fun y hy => hq y (List.mem_cons_of_mem _ hy)]
    simp only [hrel, Nat.add_assoc, Nat.add_comm 1]

end

/-! What a reset and a start leave of an earlier read: nothing (R32). -/

theorem State.input_congr {s t : State} (hin : s.inputs = t.inputs) (htick : s.tick = t.tick) : s.input = t.input := by
  rw [State.input, State.input, hin, htick]

theorem State.clear_congr {s t : State} (hp : s.params = t.params) (hrom : s.rom = t.rom) (hin : s.inputs = t.inputs)
    (htick : s.tick = t.tick) : s.clear = t.clear := by
  rw [State.clear, State.clear, hp, hrom, hin, htick]

/-! Placing a word (log entry 4). -/

theorem decodeTableWord_eq_some {nbits w : Nat} {i : Instr} :
    decodeTableWord nbits w = some i ↔ decode (wordOfNat w) = .op i := by
  rw [decodeTableWord]
  cases decode (wordOfNat w) <;> simp [Decoded.instr?]

theorem State.withFetchWord_fetch (s : State) (nbits w : Nat) :
    (s.withFetchWord nbits w).fetch = decode (wordOfNat w) :=
  (State.placeInput_fetch _).trans (State.placeWord_fetch _ s)

theorem State.withFetchWord_params (s : State) (nbits w : Nat) : (s.withFetchWord nbits w).params = s.params :=
  (State.placeInput_params _).trans (State.placeWord_params _ s)

theorem State.withFetchWord_rst (s : State) (nbits w : Nat) : (s.withFetchWord nbits w).input.rst = false :=
  State.placeInput_rst _

end Sys2Proof.Machine
end

section
/-! The statements about the step: which micro-operation it runs and when it is refused, the start action, the idle
steps, and what a step reads. -/

namespace Sys2Proof.Proofs

open Sys2Proof.Machine

/-- Settles O4: each word by the decoder. -/
theorem wordsOfTheSpecDecode : Obligations.WordsOfTheSpecDecode := by
  unfold Obligations.WordsOfTheSpecDecode
  decide

/-- Settles O7: no word of the ROM is above 130, and an index out of range finds no operand. -/
theorem reservedWordsHaveNoStep : Obligations.ReservedWordsHaveNoStep :=
  ⟨fun rom _ ha => romDecode_of_gt rom ha, fun _ hv hr hb hf => step_reserved hv hr hb hf,
    fun _ s hwf => exec_refused_of_not_wellFormed hwf s⟩

/-- Settles O8: a fetched micro-operation has its operands in range, so it has a next state. -/
theorem stepRunsTheFetchedOperation : Obligations.StepRunsTheFetchedOperation := by
  intro s i hv hr hb hf
  obtain ⟨t, ht, hstep⟩ := step_exec hv hr hb hf
  obtain ⟨-, -, hin, htick⟩ := exec_keeps ht
  exact ⟨t, ht, by rw [hstep, State.clock, hin, htick]⟩

/-- Settles O9: the placed state fetches the word, with a read in flight and no reset. -/
theorem placedWordIsRunByTheNextStep : Obligations.PlacedWordIsRunByTheNextStep := by
  intro s nbits w i hv hw
  have hf : (s.withFetchWord nbits w).fetch = .op i :=
    (s.withFetchWord_fetch nbits w).trans (decodeTableWord_eq_some.mp hw)
  exact ⟨hf, step_op (by rwa [s.withFetchWord_params]) (s.withFetchWord_rst nbits w) rfl hf⟩

/-- Settles O12: the step is the start action. -/
theorem startActionBeginsAFreshRead : Obligations.StartActionBeginsAFreshRead := fun _ => step_start

/-- Settles O14: the first idle step writes `REL`, the others nothing. -/
theorem outcomeStaysReadableWhileIdle : Obligations.OutcomeStaysReadableWhileIdle := by
  intro s quiet rest hv hb hin hq hne
  obtain ⟨x, xs, rfl⟩ := List.exists_cons_of_ne_nil hne
  rw [List.length_cons, stepN_succ _ (step_quiet hv hb hin (hq x List.mem_cons_self)),
    stepN_quiet (by exact hv) (by exact hb) rfl rfl fun y hy => hq y (List.mem_cons_of_mem _ hy)]
  simp only [Nat.add_assoc, Nat.add_comm 1]

/-- Settles O16: of the sampled input a step reads `din` only where the fetched micro-operation awaits. -/
theorem onlyAwaitsReadTheLine : Obligations.OnlyAwaitsReadTheLine := fun s _ rest _ hop =>
  step_congr_input s rest rfl (fun _ => rfl) fun hb i hf ha => by simp [hop hb i hf] at ha

/-- Settles O17: a start, or the reset that goes before it, writes every register. -/
theorem nothingSurvivesAStart : Obligations.NothingSurvivesAStart := by
  intro s s' hp hrom hin htick hb hb' hs
  have hinput := State.input_congr hin htick
  have hclear := State.clear_congr hp hrom hin htick
  have hedge : edge s = edge s' := by
    simp [edge, hb, hb', ← hinput, hs, resetAction, startAction, hclear]
  rw [step, step, hp, hedge]

/-- Settles O48: the ROM holds no reserved word, and no ordinary data stops a micro-operation. -/
theorem engineNeverStops : Obligations.EngineNeverStops := fun _ hs => hs.exists_step

/-- Settles O35: an operand in range is found. -/
theorem everyWellFormedOperationHasAStep : Obligations.EveryWellFormedOperationHasAStep := fun _ s hwf =>
  exec_next_of_wellFormed hwf s

end Sys2Proof.Proofs
end

section
/-! SUPPORT. The writers of the registers: the counts by the destination of a wait (R42, R80), the datapath and `UPC`
by the micro-operation that runs (R11 to R25, R132). -/

namespace Sys2Proof.Machine

open Sys2Proof.Claims

/-! The count registers. -/

/-- The count a destination holds. -/
def State.countAt (s : State) : Dest → Count
  | .ackc k => s.ackc[k.val]
  | .lo i   => s.lo[i.val]
  | .hi i   => s.hi[i.val]

theorem countAt_writeDest (d e : Dest) (v : Count) (s : State) :
    (writeDest d v s).countAt e = if d = e then v else s.countAt e := by
  cases d <;> cases e <;> simp [State.countAt, Vector.getElem_set, Fin.ext_iff]

theorem countAt_raiseTimeout (s : State) (d : Dest) : s.raiseTimeout.countAt d = 0 := by
  cases d <;> simp [State.countAt]

theorem countAt_deliver (d e : Dest) (s : State) :
    (s.deliver d).countAt e = if d = e then s.cnt else s.countAt e := by
  rw [← countAt_writeDest]
  cases e <;> rfl

theorem ptRead_ptWrite (b c : Bank) (i j : Fin 40) (v : Count) (s : State) :
    ptRead (ptWrite b i v s) c j = if b = c ∧ i = j then v else ptRead s c j := by
  cases b <;> cases c <;> simp [ptRead, ptWrite, Vector.getElem_set, Fin.ext_iff]

theorem ptWrite_frame (b : Bank) (i : Fin 40) (v : Count) (s : State) :
    { ptWrite b i v s with lo := s.lo, hi := s.hi } = s := by
  cases b <;> rfl

/-! The micro-operation that delivers to a destination is the one with its index (R91, R92, R93). -/

theorem eq_ofNat_of_toNat_eq {x : Idx} {n : Nat} (h : x.toNat = n) : x = BitVec.ofNat 6 n := by
  rw [← h, BitVec.ofNat_toNat, BitVec.setWidth_eq]

theorem eq_ack_of_awaits {i : Instr} {l : Level} {k : Fin 3} (ha : awaits i = some (l, .ackc k)) :
    i = .ack l (BitVec.ofNat 6 k.val) := by
  cases i <;> simp [awaits] at ha
  obtain ⟨hk, rfl⟩ := ha
  rw [eq_ofNat_of_toNat_eq (ackIndex_eq_some.mp hk)]

theorem eq_mlo_of_awaits {i : Instr} {l : Level} {j : Fin 40} (ha : awaits i = some (l, .lo j)) :
    i = .mlo (BitVec.ofNat 6 j.val) := by
  cases i <;> simp [awaits] at ha
  rw [eq_ofNat_of_toNat_eq (bitIndex_eq_some.mp ha.1)]

theorem eq_mhi_of_awaits {i : Instr} {l : Level} {j : Fin 40} (ha : awaits i = some (l, .hi j)) :
    i = .mhi (BitVec.ofNat 6 j.val) := by
  cases i <;> simp [awaits] at ha
  rw [eq_ofNat_of_toNat_eq (bitIndex_eq_some.mp ha.1)]

/-! The writers. -/

section
variable {i : Instr} {s t : State} (h : exec i s = .next t)
include h

/-- Only an await writes the counter or a count (R18, R24, R25). -/
theorem exec_counts_of_no_await (ha : awaits i = none) :
    t.cnt = s.cnt ∧ t.ackc = s.ackc ∧ t.lo = s.lo ∧ t.hi = s.hi := by
  obtain ⟨l, d, hw, -⟩ | ⟨-, rfl⟩ | ⟨-, -, -, -, rfl⟩ | ⟨-, -, -, -, rfl⟩ | ⟨-, -, rfl⟩ | ⟨-, -, rfl⟩ | ⟨-, rfl⟩ |
    ⟨-, rfl⟩ := exec_cases h
  · exact absurd (ha.symm.trans hw) (by simp)
  all_goals simp

theorem exec_count_writer {e : Dest} (hne : t.countAt e ≠ s.countAt e) :
    (∃ l, awaits i = some (l, e)) ∨ (TimedOut i t ∧ t.countAt e = 0) := by
  cases ha : awaits i with
  | none =>
    obtain ⟨-, hack, hlo, hhi⟩ := exec_counts_of_no_await h ha
    exact absurd (by cases e <;> simp only [State.countAt, hack, hlo, hhi]) hne
  | some w =>
    obtain ⟨l, d⟩ := w
    rw [exec_await ha] at h
    cases h
    rcases guardStep_cases l d s with ⟨-, e'⟩ | ⟨-, -, e'⟩ | ⟨-, -, e'⟩ <;> rw [e'] at hne ⊢
    · rw [countAt_deliver] at hne
      split at hne
      next hd => exact .inl ⟨l, by rw [hd]⟩
      next => exact absurd rfl hne
    · exact .inr ⟨⟨by simp [ha], by simp [EndedWith]⟩, countAt_raiseTimeout _ e⟩
    · exact absurd (by cases e <;> rfl) hne

/-- `UPC` stays, or a completion that is not `FIN` moves it on by one (R11, R132). -/
theorem exec_upc_cases : t.upc = s.upc ∨ (t.upc = s.upc + 1 ∧ t.rel = false ∧ i ≠ .fin) := by
  obtain ⟨l, d, ha, rfl⟩ | ⟨rfl, rfl⟩ | ⟨-, -, rfl, -, rfl⟩ | ⟨-, -, rfl, -, rfl⟩ | ⟨rfl, -, rfl⟩ | ⟨-, -, rfl⟩ |
    ⟨rfl, rfl⟩ | ⟨-, rfl⟩ := exec_cases h
  · have hfin : i ≠ .fin := by rintro rfl; simp [awaits] at ha
    rcases guardStep_cases l d s with ⟨-, e⟩ | ⟨-, -, e⟩ | ⟨-, -, e⟩ <;> rw [e]
    · simp [hfin]
    · simp
    · simp
  all_goals simp

/-- The datapath registers and the counter, each with its writer (R14, R15, R17 to R22). -/
theorem exec_datapath_writers :
    (t.rvalid ≠ s.rvalid → i = .cnv) ∧ (t.csok ≠ s.csok → i = .cmp) ∧ (t.cnt ≠ s.cnt → (awaits i).isSome) ∧
      (t.thresh ≠ s.thresh → i = .thr) ∧ (t.sr ≠ s.sr → ∃ n, i = .dec n) ∧ (t.csum ≠ s.csum → ∃ j, i = .acc j) ∧
      (t.hum ≠ s.hum → i = .cnv) ∧ (t.temp ≠ s.temp → i = .cnv) := by
  obtain ⟨l, d, ha, rfl⟩ | ⟨rfl, rfl⟩ | ⟨n, -, rfl, -, rfl⟩ | ⟨n, -, rfl, -, rfl⟩ | ⟨rfl, -, rfl⟩ | ⟨-, -, rfl⟩ |
    ⟨rfl, rfl⟩ | ⟨-, rfl⟩ := exec_cases h
  · rcases guardStep_cases l d s with ⟨-, e⟩ | ⟨-, -, e⟩ | ⟨-, -, e⟩ <;> rw [e] <;> simp [ha]
  all_goals simp

/-- The cause of a termination, with its code (R140, R142, R143). -/
theorem exec_done_cause (hs : s.done = false) (ht : t.done = true) :
    (t.err = 1 ∧ ∃ l d, awaits i = some (l, d) ∧ s.input.din ≠ l ∧ s.cnt.toNat + 1 = s.params.maxIter) ∨
      (t.err = 2 ∧ i = .cmp ∧ s.csum ≠ frameByte s.sr 4) ∨ (t.err = 0 ∧ i = .fin) := by
  obtain ⟨l, d, ha, rfl⟩ | ⟨-, rfl⟩ | ⟨_, _, -, -, rfl⟩ | ⟨_, _, -, -, rfl⟩ | ⟨-, -, rfl⟩ | ⟨rfl, hmiss, rfl⟩ |
    ⟨-, rfl⟩ | ⟨rfl, rfl⟩ := exec_cases h
  · rcases guardStep_cases l d s with ⟨-, e⟩ | ⟨hdin, hcnt, e⟩ | ⟨-, -, e⟩ <;> rw [e] at ht ⊢
    · simp [hs] at ht
    · exact .inl ⟨rfl, l, d, ha, hdin, hcnt⟩
    · simp [hs] at ht
  · simp [hs] at ht
  · simp [hs] at ht
  · simp [hs] at ht
  · simp [hs] at ht
  · exact .inr (.inl ⟨rfl, rfl, by simpa [checksumHit] using hmiss⟩)
  · simp [hs] at ht
  · exact .inr (.inr ⟨rfl, rfl⟩)

end

/-- No step writes a parameter or the ROM, and each takes one input (R4, R6, R44). -/
theorem step_keeps {s t : State} (h : step s = .next t) :
    t.params = s.params ∧ t.rom = s.rom ∧ t.inputs = s.inputs.tail ∧ t.tick = s.tick + 1 := by
  obtain ⟨-, ⟨-, rfl⟩ | ⟨-, -, -, rfl⟩ | ⟨-, -, -, rfl⟩ | ⟨-, -, i, u, -, hu, rfl⟩⟩ := step_cases h
  · simp
  · simp
  · simp
  · obtain ⟨hp, hrom, hin, htick⟩ := exec_keeps hu
    simp [hp, hrom, hin, htick]

/-! The mean, from below (R100). -/

theorem le_lowMean {skip : Nat} {lo : Vector Count 40} {c : Nat} (hskip : skip ≤ 39)
    (h : ∀ j : Fin 40, skip ≤ j.val → c ≤ lo[j.val].toNat) : c ≤ lowMean skip lo := by
  have hsum : (40 - skip) * c ≤ lowSum skip lo := by
    have hle := List.card_nsmul_le_sum ((lo.toList.drop skip).map BitVec.toNat) c fun x hx => by
      obtain ⟨y, hy, rfl⟩ := List.mem_map.mp hx
      obtain ⟨j, hj, rfl⟩ := List.mem_drop_iff_getElem.mp hy
      exact h ⟨skip + j, by simpa [Nat.add_comm] using hj⟩ (Nat.le_add_right _ _)
    simpa [lowSum] using hle
  rw [lowMean, Nat.le_div_iff_mul_le (by omega), Nat.mul_comm]
  exact hsum

end Sys2Proof.Machine
end

section
/-! The statements about what a step and a micro-operation write, and about the digits of a result. -/

namespace Sys2Proof.Proofs

open Sys2Proof.Machine Sys2Proof.Claims

/-- Settles O18: no action writes a constant, and the clock takes one input. -/
theorem constantsAreNeverWritten : Obligations.ConstantsAreNeverWritten := fun _ _ => step_keeps

/-- Settles O19: where a micro-operation moves `UPC` on, `REL` is 0, so it goes on with the read. -/
theorem upcMovesOnlyByOneOrToZero : Obligations.UpcMovesOnlyByOneOrToZero := by
  intro s t h
  obtain ⟨-, ⟨hr, rfl⟩ | ⟨-, hb, hs, rfl⟩ | ⟨-, -, -, rfl⟩ | ⟨hr, hb, i, u, -, hu, rfl⟩⟩ := step_cases h
  · exact .inr (.inr ⟨rfl, .inl hr⟩)
  · exact .inr (.inr ⟨rfl, .inr ⟨hb, hs⟩⟩)
  · exact .inl rfl
  · rcases exec_upc_cases hu with hstay | ⟨hmove, hrel, -⟩
    · exact .inl hstay
    · rcases exec_continues_or_ends_read hu with ⟨-, hbusy, -⟩ | hend
      · exact .inr (.inl ⟨hmove, hb, hbusy.trans hb, hrel, hr⟩)
      · obtain ⟨-, -, hset⟩ := flags_of_endedRead hend
        simp [hrel] at hset

/-- Settles O21: what goes on with a read leaves both flags, and what ends one clears `BUSY`. -/
theorem busyAndDoneStayExclusive : Obligations.BusyAndDoneStayExclusive := by
  intro s t h hs
  obtain ⟨-, ⟨-, rfl⟩ | ⟨-, -, -, rfl⟩ | ⟨-, -, -, rfl⟩ | ⟨-, -, i, u, -, hu, rfl⟩⟩ := step_cases h
  · simp
  · simp
  · simpa using hs
  · rcases exec_continues_or_ends_read hu with ⟨-, hbusy, hdone, -⟩ | hend
    · simpa [hbusy, hdone] using hs
    · obtain ⟨hbusy, -, -⟩ := flags_of_endedRead hend
      simp [hbusy]

/-- Settles O22: each way of ending a read has its code, and nothing else writes `ERR` but the reset values. -/
theorem reservedErrorCodesAreNeverWritten : Obligations.ReservedErrorCodesAreNeverWritten := by
  intro s t h
  obtain ⟨-, ⟨-, rfl⟩ | ⟨-, -, -, rfl⟩ | ⟨-, -, -, rfl⟩ | ⟨-, -, i, u, -, hu, rfl⟩⟩ := step_cases h
  · simp
  · simp
  · simp
  · rcases exec_continues_or_ends_read hu with ⟨-, -, -, herr⟩ | ⟨-, herr, -⟩ | ⟨-, herr, -⟩ | ⟨-, herr, -⟩ <;>
      simp [herr]

/-- Settles O27: `THRESH` is the mean, which any bound on the low phases bounds. -/
theorem thresholdLiesBetweenTheLowPhases : Obligations.ThresholdLiesBetweenTheLowPhases := by
  intro s t hv hfit h c
  obtain ⟨-, -, -, -, hskip⟩ := Params.valid_iff.mp hv
  rw [exec_thr] at h
  cases h
  simp only [countOf_toNat hv (lowMean_lt_two_pow hfit)]
  exact ⟨lowMean_le, le_lowMean hskip⟩

/-- Settles O36: the flags are written by what ends a read, a count by the await it is the destination of. -/
theorem eachRegisterHasItsWriter : Obligations.EachRegisterHasItsWriter := by
  intro i s t h
  have hflags := exec_continues_or_ends_read h
  obtain ⟨hrvalid, hcsok, hcnt, hdata⟩ := exec_datapath_writers h
  refine ⟨fun hne => (exec_upc_cases h).resolve_left hne, fun hne => hflags.resolve_left fun hc => hne hc.2.1,
    fun hne => hflags.resolve_left fun hc => hne hc.2.2.1, fun hne => hflags.resolve_left fun hc => hne hc.2.2.2,
    fun hrel => hflags.resolve_left fun hc => by simp [hrel, Continues] at hc, hrvalid, hcsok, hcnt, fun k hne => ?_,
    fun j hne => ?_, fun j hne => ?_, hdata⟩
  · exact (exec_count_writer h (e := .ackc k) hne).imp_left fun ⟨l, ha⟩ => ⟨l, eq_ack_of_awaits ha⟩
  · exact (exec_count_writer h (e := .lo j) hne).imp_left fun ⟨l, ha⟩ => eq_mlo_of_awaits ha
  · exact (exec_count_writer h (e := .hi j) hne).imp_left fun ⟨l, ha⟩ => eq_mhi_of_awaits ha

/-- Settles O37: of all that a micro-operation can do, three things set `DONE`. -/
theorem everyTerminationHasItsCause : Obligations.EveryTerminationHasItsCause := fun _ _ _ h =>
  exec_done_cause h

/-- Settles O38: a write goes to one word of one bank. -/
theorem pulseTrainReadsTheLastWrite : Obligations.PulseTrainReadsTheLastWrite := fun b c i j v s =>
  ⟨ptRead_ptWrite b c i j v s, ptWrite_frame b i v s⟩

/-- Settles O54: division by ten, on 16 bits and on 15. -/
theorem digitsOfAResult : Obligations.DigitsOfAResult := by
  refine ⟨fun s => ?_, fun f => ?_⟩
  · have := s.hum.isLt
    simp only [tenthsDigits]
    omega
  · have := magnitudeOf_lt f
    simp only [tempDigits, tenthsDigits, frameMagnitude_toNat, frameSign, and_true]
    omega

end Sys2Proof.Proofs
end

section
/-! SUPPORT. Micro-operations one after another (R186): the Bits that `THR` and the `DEC`s leave (R105, R106), the sum
that the `ACC`s leave (R112), and what the datapath of a terminated read holds (R33). -/

namespace Sys2Proof.Machine

open Sys2Proof.Claims

/-! Lists of micro-operations. -/

theorem runOps_cons {i : Instr} {s t : State} (is : List Instr) (h : exec i s = .next t) :
    runOps (i :: is) s = runOps is t := by
  rw [runOps, h]

theorem runOps_append {is : List Instr} {s t : State} (js : List Instr) (h : runOps is s = .next t) :
    runOps (is ++ js) s = runOps js t := by
  induction is generalizing s with
  | nil => cases h; rfl
  | cons i is ih =>
    rw [runOps] at h
    split at h
    next u hu => rw [List.cons_append, runOps_cons _ hu, ih h]
    next => cases h
    next => cases h

theorem indices_succ (n : Nat) : indices (n + 1) = indices n ++ [BitVec.ofNat 6 n] := by
  rw [indices, List.range_succ, List.map_append]
  rfl

/-! The Bits, most significant first (R105). -/

theorem State.decided_getLsbD (s : State) {n : Nat} (hn : n ≤ 40) (i : Fin 40) (hi : i.val < n) :
    (s.decided n).getLsbD (n - 1 - i.val) = s.bitOf i := by
  induction n with
  | zero => exact absurd hi (Nat.not_lt_zero _)
  | succ n ih =>
    rw [s.decided_succ ⟨n, hn⟩, shiftIn_getLsbD]
    by_cases hlast : i.val = n
    · have hi : i = ⟨n, hn⟩ := Fin.ext hlast
      rw [if_pos (by omega), hi]
    · rw [if_neg (by omega), decide_eq_true (by omega), Bool.true_and, ← ih (by omega) (by omega)]
      congr 1
      omega

theorem State.decided_forty_getLsbD (s : State) (i : Fin 40) :
    (s.decided 40).getLsbD (39 - i.val) = bitFrom s.params s.thresh.toNat s.hi[i.val].toNat s.lo[i.val].toNat := by
  rw [← State.bitOf_eq]
  exact s.decided_getLsbD le_rfl i i.isLt

/-- Data bit 8`j` + `m` is bit 7 − `m` of byte `j` (R105). -/
theorem frameByte_getLsbD {f : Frame} {j m : Nat} (hj : j < 5) (hm : m < 8) :
    (frameByte f j).getLsbD (7 - m) = f.getLsbD (39 - (8 * j + m)) := by
  rw [frameByte, BitVec.getLsbD_extractLsb', decide_eq_true (by omega), Bool.true_and]
  congr 1
  omega

/-- The first `n` `DEC`s push what `SR` held up by `n` and fill the low `n` bits. -/
theorem runOps_dec {s : State} (hrel : s.rel = false) {n : Nat} (hn : n ≤ 40) :
    ∃ f : Frame, runOps ((indices n).map .dec) s = .next { s with sr := f, upc := s.upc + BitVec.ofNat 8 n } ∧
      ∀ k < n, f.getLsbD k = (s.decided n).getLsbD k := by
  induction n with
  | zero => exact ⟨s.sr, by cases s; simp [indices, runOps], fun k hk => absurd hk (Nat.not_lt_zero k)⟩
  | succ n ih =>
    obtain ⟨f, hrun, hf⟩ := ih (by omega)
    have hupc : s.upc + BitVec.ofNat 8 n + 1 = s.upc + BitVec.ofNat 8 (n + 1) :=
      (BitVec.add_assoc ..).trans (congrArg _ (BitVec.ofNat_add n 1).symm)
    refine ⟨shiftIn f (s.bitOf ⟨n, hn⟩), ?_, fun k hk => ?_⟩
    · rw [indices_succ, List.map_append, runOps_append _ hrun, List.map_singleton, runOps_cons _ (exec_dec ⟨n, hn⟩ _),
        runOps, hrel, hupc]
      rfl
    · rw [s.decided_succ ⟨n, hn⟩, shiftIn_getLsbD, shiftIn_getLsbD]
      split
      · rfl
      · rw [hf (k - 1) (by omega)]

/-- After 40 `DEC`s nothing is left of what `SR` held. -/
theorem runOps_dec_forty {s : State} (hrel : s.rel = false) :
    runOps ((indices 40).map .dec) s = .next { s with sr := s.decided 40, upc := s.upc + 40 } := by
  obtain ⟨f, hrun, hf⟩ := runOps_dec hrel le_rfl
  rw [hrun, BitVec.eq_of_getLsbD_eq hf]
  rfl

/-- The state with the Threshold of its low phases (R100). -/
def State.withThreshold (s : State) : State :=
  { s with thresh := countOf s.params (lowMean s.params.thrSkip s.lo) }

/-- `DECODE` leaves the Threshold and the Bits decided with it (R100, R105). -/
theorem runOps_decodeSeq (s : State) :
    runOps Instr.decodeSeq s =
      .next { s.withThreshold with sr := s.withThreshold.decided 40, upc := s.upc + 41, rel := false } := by
  rw [Instr.decodeSeq, runOps_cons _ (exec_thr s), runOps_dec_forty rfl, BitVec.add_assoc]
  congr 2

theorem State.withThreshold_thresh_toNat {s : State} (hv : s.params.valid = true) (hfit : LowCountsFit s) :
    s.withThreshold.thresh.toNat = meanOf s := by
  rw [meanOf_eq]
  exact countOf_toNat hv (lowMean_lt_two_pow hfit)

/-! One more on every count (N4). -/

theorem lowMean_of_succ {skip : Nat} (hskip : skip ≤ 39) {lo lo' : Vector Count 40}
    (h : ∀ j : Fin 40, lo'[j.val].toNat = lo[j.val].toNat + 1) : lowMean skip lo' = lowMean skip lo + 1 := by
  have hlist : lo'.toList.map BitVec.toNat = lo.toList.map fun c => c.toNat + 1 :=
    List.ext_getElem (by simp) fun j hj _ => by
      simpa using h ⟨j, by simpa using hj⟩
  have hsum : lowSum skip lo' = lowSum skip lo + (40 - skip) := by
    rw [lowSum, List.map_drop, hlist, ← List.map_drop, List.sum_map_add, lowSum, List.map_const',
      List.sum_replicate, List.length_drop, Vector.length_toList, smul_eq_mul, Nat.mul_one]
  rw [lowMean, lowMean, hsum, Nat.add_div_right _ (by omega)]

theorem bitFrom_abs_succ {p : Params} (hp : p.policy = .abs) (th h l l' : Nat) :
    bitFrom p (th + 1) (h + 1) l' = bitFrom p th h l := by
  simp [bitFrom, hp]

/-! The checksum (R112, R113). -/

theorem frameSum_toNat (f : Frame) :
    (frameSum f).toNat = ((frameByte f 0).toNat + (frameByte f 1).toNat + (frameByte f 2).toNat +
      (frameByte f 3).toNat) % 256 := by
  simp only [frameSum, BitVec.toNat_add]
  omega

theorem frameValid_iff {f : Frame} : frameValid f = true ↔ ChecksumRight f := by
  rw [frameValid, beq_iff_eq, ← BitVec.toNat_inj, frameSum_toNat, ChecksumRight]

/-- From `CSUM` = 0 the four `ACC`s leave the sum of the first four bytes. -/
theorem runOps_acc_four {s : State} (hc : s.csum = 0) :
    runOps ((indices 4).map .acc) s =
      .next { s with csum := frameSum s.sr, upc := s.upc + 4, rel := false } := by
  have hrun : runOps ((indices 4).map .acc) s = .next { s with
      csum := s.csum + frameByte s.sr 0 + frameByte s.sr 1 + frameByte s.sr 2 + frameByte s.sr 3,
      upc := s.upc + 1 + 1 + 1 + 1, rel := false } := rfl
  rw [hrun, hc, frameSum, zero_add, BitVec.add_assoc, BitVec.add_assoc, BitVec.add_assoc]
  rfl

/-- The five bytes side by side, as numbers. -/
theorem frame_bytes {f : Frame} {b0 b1 b2 b3 b4 : Byte} (h : f = b0 ++ (b1 ++ (b2 ++ (b3 ++ b4)))) :
    frameSum f = b0 + b1 + b2 + b3 ∧ frameByte f 4 = b4 := by
  have hf : f.toNat = b0.toNat * 2 ^ 32 + b1.toNat * 2 ^ 24 + b2.toNat * 2 ^ 16 + b3.toNat * 2 ^ 8 + b4.toNat := by
    rw [h]
    simp only [toNat_append_eq_add]
    omega
  have h0 : frameByte f 0 = b0 := by apply BitVec.eq_of_toNat_eq; rw [frameByte_toNat, hf]; omega
  have h1 : frameByte f 1 = b1 := by apply BitVec.eq_of_toNat_eq; rw [frameByte_toNat, hf]; omega
  have h2 : frameByte f 2 = b2 := by apply BitVec.eq_of_toNat_eq; rw [frameByte_toNat, hf]; omega
  have h3 : frameByte f 3 = b3 := by apply BitVec.eq_of_toNat_eq; rw [frameByte_toNat, hf]; omega
  have h4 : frameByte f 4 = b4 := by apply BitVec.eq_of_toNat_eq; rw [frameByte_toNat, hf]; omega
  exact ⟨by rw [frameSum, h0, h1, h2, h3], h4⟩

/-! The outcomes of a read (R33). -/

theorem asComputed_of_data {s : State} (hthresh : s.thresh.toNat = lowMean s.params.thrSkip s.lo)
    (hsr : s.sr = s.decided 40) (hcsum : s.csum = partialSum s.sr 4) : AsComputed s := by
  rw [← meanOf_eq] at hthresh
  refine ⟨hthresh, fun n => ?_, ?_⟩
  · rw [hsr, s.decided_forty_getLsbD, hthresh]
  · rw [hcsum, partialSum_four, frameSum_toNat]

section
variable {s : State} (hs : s.Inv)
include hs

theorem State.Inv.asComputed_of_upc (hupc : s.upc = 128 ∨ s.upc = 130) : AsComputed s := by
  have hdata := hs.data
  rcases hupc with hupc | hupc <;> rw [hupc] at hdata <;> exact asComputed_of_data hdata.thresh hdata.sr hdata.csum

/-- A read that ended well holds a Frame that validates (R113). -/
theorem State.Inv.checksumRight_of_upc (hupc : s.upc = 130) : ChecksumRight s.sr :=
  frameValid_iff.mp (hs.data.valid (by rw [hupc]; decide))

/-- The rows of R33, each by its code. -/
theorem State.Inv.outcome_rows (hd : s.done = true) :
    (s.err = 0 ∧ s.upc = 130) ∨ (s.err = 1 ∧ s.upc.toNat ≤ 82 ∧ s.TrainClear) ∨
      (s.err = 2 ∧ s.upc = 128 ∧ ¬ ChecksumRight s.sr) := by
  rcases hs.ended hd with ⟨herr, hupc, -⟩ | ⟨herr, hupc, -, hclear⟩ | ⟨herr, hupc, -, hbad⟩
  · exact .inl ⟨herr, hupc⟩
  · exact .inr (.inl ⟨herr, hupc, hclear⟩)
  · exact .inr (.inr ⟨herr, hupc, by rw [← frameValid_iff, hbad]; decide⟩)

end

/-- What a host may take (R178). -/
theorem State.reading?_eq_some {s : State} {r : Reading} :
    s.reading? = some r ↔
      s.done = true ∧ s.err = 0 ∧ s.rvalid = true ∧ { hum := s.hum.toNat, temp := s.temp.toInt } = r := by
  rw [State.reading?]
  split <;> simp_all

end Sys2Proof.Machine
end

section
/-! The statements about sequences of micro-operations, and about the outcome of a read. -/

namespace Sys2Proof.Proofs

open Sys2Proof.Machine Sys2Proof.Claims

/-- Settles O41: the four `ACC`s leave the sum of the first four bytes, and `CMP` compares it with the last. -/
theorem validateAcceptsExactlyTheRightChecksum : Obligations.ValidateAcceptsExactlyTheRightChecksum := by
  intro s b0 b1 b2 b3 b4 hc hsr
  obtain ⟨hsum, hlast⟩ := frame_bytes hsr
  have hlast : s.sr.toNat % 256 = b4.toNat := by rw [← hlast, frameByte_toNat]; norm_num
  have htotal : (b0 + b1 + b2 + b3).toNat = (b0.toNat + b1.toNat + b2.toNat + b3.toNat) % 256 := by
    simp only [BitVec.toNat_add]
    omega
  have hacc := runOps_acc_four hc
  rw [hsum] at hacc
  have hupc : s.upc + 4 + 1 = s.upc + 5 := BitVec.add_assoc ..
  rw [Instr.validate, runOps_append _ hacc]
  refine ⟨fun h => ?_, fun h => ?_⟩
  · have hb : b0 + b1 + b2 + b3 = b4 := BitVec.eq_of_toNat_eq (htotal.trans h)
    have hcmp := exec_cmp_of_eq (s := { s with csum := b0 + b1 + b2 + b3, upc := s.upc + 4, rel := false })
      (htotal.trans (h.trans hlast.symm))
    rw [runOps_cons _ hcmp, hb, hupc, runOps]
  · have hcmp := exec_cmp_of_ne (s := { s with csum := b0 + b1 + b2 + b3, upc := s.upc + 4, rel := false })
      fun heq => h (htotal.symm.trans (heq.trans hlast))
    rw [runOps_cons _ hcmp, runOps]

/-- Settles O42: the `DEC`s push out what `SR` held, and `THR` writes the mean. -/
theorem decodeFillsTheFrameMostSignificantFirst : Obligations.DecodeFillsTheFrameMostSignificantFirst := by
  intro s hv hfit
  have hthresh := State.withThreshold_thresh_toNat hv hfit
  have hbit (n : Fin 40) : (s.withThreshold.decided 40).getLsbD (39 - n.val) =
      bitFrom s.params (meanOf s) s.hi[n.val].toNat s.lo[n.val].toNat := by
    rw [← hthresh]
    exact s.withThreshold.decided_forty_getLsbD n
  refine ⟨_, runOps_decodeSeq s, rfl, hthresh, hbit, fun j m n hn => ?_⟩
  rw [frameByte_getLsbD j.isLt m.isLt, ← hn]
  exact hbit n

/-- Settles O43: neither the Threshold nor a Bit reads anything else. -/
theorem decodingDependsOnlyOnThePulseTrain : Obligations.DecodingDependsOnlyOnThePulseTrain := by
  intro s s' t t' hp hlo hhi ht ht'
  rw [runOps_decodeSeq] at ht ht'
  cases ht
  cases ht'
  have hthresh : s.withThreshold.thresh = s'.withThreshold.thresh := by
    simp only [State.withThreshold, hp, hlo]
  exact ⟨State.decided_congr 40 hp hthresh hlo hhi, hthresh⟩

/-- Settles O44: the Threshold and every high phase are one more, so the comparisons are the same. -/
theorem absolutePolicyIgnoresACommonOffset : Obligations.AbsolutePolicyIgnoresACommonOffset := by
  intro s s' t t' hv habs hp hoff ht ht'
  rw [runOps_decodeSeq] at ht ht'
  cases ht
  cases ht'
  obtain ⟨-, -, -, -, hskip⟩ := Params.valid_iff.mp hv
  have hfit : LowCountsFit s := fun j => Nat.lt_of_succ_lt (hoff j).1
  have hfit' : LowCountsFit s' := fun j => by rw [hp, (hoff j).2.1]; exact (hoff j).1
  have hthresh : s'.withThreshold.thresh.toNat = s.withThreshold.thresh.toNat + 1 := by
    rw [State.withThreshold_thresh_toNat (by rwa [hp]) hfit', State.withThreshold_thresh_toNat hv hfit, meanOf_eq,
      meanOf_eq, hp, lowMean_of_succ hskip fun j => (hoff j).2.1]
  have hbits : s.withThreshold.bitOf = s'.withThreshold.bitOf := by
    funext i
    obtain ⟨-, -, -, hhi⟩ := hoff i
    have hp' : s'.withThreshold.params = s.withThreshold.params := hp
    have hhi' : s'.withThreshold.hi[i.val].toNat = s.withThreshold.hi[i.val].toNat + 1 := hhi
    rw [State.bitOf_eq, State.bitOf_eq, hthresh, hp', hhi']
    exact (bitFrom_abs_succ habs ..).symm
  exact ⟨State.decided_of_bitOf_eq hbits 40, hthresh⟩

/-- Settles O49: the invariant says what each outcome holds. -/
theorem outcomesLeaveWhatTheTableSays : Obligations.OutcomesLeaveWhatTheTableSays := by
  intro s hs hd
  rcases hs.outcome_rows hd with ⟨herr, hupc⟩ | ⟨herr, hupc, hclear⟩ | ⟨herr, hupc, -⟩
  · obtain ⟨hrvalid, hcsok, hhum, htemp⟩ := hs.reading_of_upc hupc
    exact .inl ⟨herr, hupc, hcsok, hrvalid, hs.counts, hs.asComputed_of_upc (.inr hupc), hhum, htemp⟩
  · obtain ⟨hthresh, hsr, hcsum, hcsok, hrvalid, hhum, htemp⟩ :=
      (State.datapathAt_iff_zero (by omega)).mp hs.data
    exact .inr (.inl ⟨herr, hupc, hclear, hthresh, hsr, hcsum, hcsok, hrvalid, hhum, htemp⟩)
  · have hdata := hs.data
    rw [hupc] at hdata
    obtain ⟨-, -, -, hcsok, hrvalid, hhum, htemp⟩ := (State.datapathAt_iff_adding (j := 4) le_rfl).mp hdata
    exact .inr (.inr ⟨herr, hupc, hcsok, hrvalid, hhum, htemp, hs.counts, hs.asComputed_of_upc (.inl hupc)⟩)

/-- Settles O50: only the row of a success has `ERR` = 0, and a success is past `CMP` and `CNV`. -/
theorem readingComesFromAValidatedPulseTrain : Obligations.ReadingComesFromAValidatedPulseTrain := by
  intro s r hs hr
  obtain ⟨hd, herr, -, rfl⟩ := State.reading?_eq_some.mp hr
  rcases hs.outcome_rows hd with ⟨-, hupc⟩ | ⟨hbad, -⟩ | ⟨hbad, -⟩
  · obtain ⟨-, -, hhum, htemp⟩ := hs.reading_of_upc hupc
    refine ⟨hs.checksumRight_of_upc hupc, ?_, htemp, hs.asComputed_of_upc (.inr hupc)⟩
    rw [← frameHumidity_toNat_eq_bytes, frameHumidity_toNat]
    exact hhum
  · exact absurd (herr.symm.trans hbad) (by decide)
  · exact absurd (herr.symm.trans hbad) (by decide)

end Sys2Proof.Proofs
end

section
/-! SUPPORT. Whole waits (R81), the 83 waits of a read one after another (R94, R97), and the end of every read
(R137). -/

namespace Sys2Proof.Machine

open Sys2Proof.Claims

/-! One wait. -/

/-- The state after `m` samples away from the level, with `rest` still to come. -/
def State.waiting (s : State) (m : Nat) (rel : Bool) (rest : List Inputs) : State :=
  { s with cnt := BitVec.ofNat 32 m, rel := rel, inputs := rest, tick := s.tick + m }

theorem State.waiting_cnt_toNat {s : State} (hv : s.params.valid = true) {m : Nat} (hm : m < s.params.maxIter)
    (rel : Bool) (rest : List Inputs) : (s.waiting m rel rest).cnt.toNat = m := by
  have hw := Params.valid_width hv
  obtain ⟨-, -, -, hmax, -⟩ := Params.valid_iff.mp hv
  exact (BitVec.toNat_ofNat ..).trans (Nat.mod_eq_of_lt (by omega))

section
variable {s : State} {i : Instr} {l : Level} {d : Dest} (hv : s.params.valid = true) (hb : s.busy = true)
  (hf : s.fetch = .op i) (ha : awaits i = some (l, d))
include hv hb hf ha

section
variable {x : Inputs} {m : Nat} (rel : Bool) (rest : List Inputs) (hr : x.rst = false)
include hr

/-- A step at a wait is the guard step, with the input gone (R80, R130). -/
theorem step_waiting :
    step (s.waiting m rel (x :: rest)) = .next (guardStep l d (s.waiting m rel (x :: rest))).clock := by
  have hstep := step_op (s := s.waiting m rel (x :: rest)) hv hr hb hf
  rw [hstep, exec_await ha, clocked_next]

theorem step_waiting_away (hdin : x.din ≠ l) (hm : m + 1 < s.params.maxIter) :
    step (s.waiting m rel (x :: rest)) = .next (s.waiting (m + 1) false rest) := by
  have hcnt := State.waiting_cnt_toNat hv (Nat.lt_of_succ_lt hm) rel (x :: rest)
  rw [step_waiting hv hb hf ha rel rest hr,
    guardStep_of_lt_bound d (by exact hdin) (by exact hv) (by rw [hcnt]; exact hm),
    State.waiting, State.waiting, BitVec.ofNat_add]
  rfl

theorem step_waiting_hit (hdin : x.din = l) :
    step (s.waiting m rel (x :: rest)) = .next { writeDest d (BitVec.ofNat 32 m) s with
      cnt := 0, upc := s.upc + 1, rel := false, inputs := rest, tick := s.tick + (m + 1) } := by
  rw [step_waiting hv hb hf ha rel rest hr, guardStep_of_sample_eq d (by exact hdin)]
  cases d <;> rfl

theorem step_waiting_bound (hdin : x.din ≠ l) (hm : m + 1 = s.params.maxIter) :
    step (s.waiting m rel (x :: rest)) = .next { s with
      cnt := BitVec.ofNat 32 (m + 1), err := 1, busy := false, done := true, rel := true,
      ackc := Vector.replicate 3 0, lo := Vector.replicate 40 0, hi := Vector.replicate 40 0, inputs := rest,
      tick := s.tick + (m + 1) } := by
  have hcnt := State.waiting_cnt_toNat hv (m := m) (by omega) rel (x :: rest)
  rw [step_waiting hv hb hf ha rel rest hr,
    guardStep_of_eq_bound d (by exact hdin) (by exact hv) (by rw [hcnt]; exact hm), BitVec.ofNat_add]
  rfl

end

variable (hcnt : s.cnt = 0) {before rest : List Inputs} (hbefore : ∀ x ∈ before, x.rst = false ∧ x.din ≠ l)
include hcnt hbefore

/-- While the samples are away from the level and the bound is not reached, the engine stays at the wait and counts
them. -/
theorem stepN_away (hin : s.inputs = before ++ rest) (hlt : before.length < s.params.maxIter) :
    ∃ rel, stepN before.length s = .next (s.waiting before.length rel rest) := by
  induction before using List.reverseRecOn generalizing rest with
  | nil => exact ⟨s.rel, by cases s; cases hin; cases hcnt; rfl⟩
  | append_singleton init x ih =>
    rw [List.length_append, List.length_singleton] at hlt ⊢
    obtain ⟨hr, hdin⟩ := hbefore x (List.mem_append_right _ (List.mem_singleton_self x))
    obtain ⟨rel, hrun⟩ := ih (fun y hy => hbefore y (List.mem_append_left _ hy)) (rest := x :: rest) (by simp [hin])
      (by omega)
    exact ⟨false, by rw [stepN_add 1 hrun, stepN_one (step_waiting_away hv hb hf ha rel rest hr hdin hlt)]⟩

/-- A wait whose first sample at the level is sample `m`, `m` < `MAX_ITER`, delivers `m` in `m` + 1 steps. -/
theorem stepN_wait {hit : Inputs} (hin : s.inputs = before ++ hit :: rest) (hlt : before.length < s.params.maxIter)
    (hr : hit.rst = false) (hdin : hit.din = l) :
    stepN (before.length + 1) s = .next { writeDest d (BitVec.ofNat 32 before.length) s with
      cnt := 0, upc := s.upc + 1, rel := false, inputs := rest, tick := s.tick + (before.length + 1) } := by
  obtain ⟨rel, haway⟩ := stepN_away hv hb hf ha hcnt hbefore hin hlt
  rw [stepN_add 1 haway, stepN_one (step_waiting_hit hv hb hf ha rel rest hr hdin)]

/-- `MAX_ITER` samples away from the level are the timeout abort (R145). -/
theorem stepN_timeout (hin : s.inputs = before ++ rest) (hlen : before.length = s.params.maxIter) :
    stepN s.params.maxIter s = .next { s with
      cnt := BitVec.ofNat 32 s.params.maxIter, err := 1, busy := false, done := true, rel := true,
      ackc := Vector.replicate 3 0, lo := Vector.replicate 40 0, hi := Vector.replicate 40 0, inputs := rest,
      tick := s.tick + s.params.maxIter } := by
  obtain ⟨-, -, hpos, -, -⟩ := Params.valid_iff.mp hv
  cases before using List.reverseRecOn with
  | nil => rw [← hlen] at hpos; cases hpos
  | append_singleton init x _ =>
    rw [List.length_append, List.length_singleton] at hlen
    obtain ⟨hr, hdin⟩ := hbefore x (List.mem_append_right _ (List.mem_singleton_self x))
    obtain ⟨rel, haway⟩ := stepN_away hv hb hf ha hcnt (rest := x :: rest)
      (fun y hy => hbefore y (List.mem_append_left _ hy)) (by simp [hin]) (by omega)
    rw [← hlen, stepN_add 1 haway, stepN_one (step_waiting_bound hv hb hf ha rel rest hr hdin hlen)]

end

/-! The 83 waits of a read. -/

/-- The ROM address of the wait that fills a register (R66, R94). -/
def Dest.address : Dest → Nat
  | .ackc k => k.val
  | .lo i   => 3 + 2 * i.val
  | .hi i   => 4 + 2 * i.val

theorem Dest.address_injective {d e : Dest} (h : d.address = e.address) : d = e := by
  cases d <;> cases e <;> simp only [Dest.address] at h <;> (congr; omega)

/-- Each of the first 83 addresses holds a wait, for its level and into its register (R94). -/
theorem exists_awaits_romOp {a : Nat} (ha : a < 83) :
    ∃ d : Dest, awaits (romOp a) = some (waitLevel a, d) ∧ d.address = a := by
  rcases Nat.lt_or_ge a 3 with h3 | h3
  · interval_cases a
    · exact ⟨.ackc 0, by decide, rfl⟩
    · exact ⟨.ackc 1, by decide, rfl⟩
    · exact ⟨.ackc 2, by decide, rfl⟩
  · rcases Nat.mod_two_eq_zero_or_one a with hmod | hmod
    · obtain ⟨n, rfl⟩ : ∃ n, a = 4 + 2 * n := ⟨(a - 4) / 2, by omega⟩
      exact ⟨.hi ⟨n, by omega⟩, by rw [romOp_mhi (by omega), waitLevel, hmod]; exact awaits_mhi ⟨n, by omega⟩, rfl⟩
    · obtain ⟨n, rfl⟩ : ∃ n, a = 3 + 2 * n := ⟨(a - 3) / 2, by omega⟩
      exact ⟨.lo ⟨n, by omega⟩, by rw [romOp_mlo (by omega), waitLevel, hmod]; exact awaits_mlo ⟨n, by omega⟩, rfl⟩

theorem lineOf_succ (c : Nat → Nat) (n : Nat) :
    lineOf c (n + 1) = lineOf c n ++ (List.replicate (c n) (!waitLevel n) ++ [waitLevel n]) := by
  rw [lineOf, List.range_succ, List.flatMap_append, List.flatMap_singleton]
  rfl

/-- The samples of one wait: those away from its level, then the one at it. -/
theorem exists_samples_of_wait {samples : List Inputs} {m : Nat} {l : Level}
    (h : samples.map Inputs.din = List.replicate m (!l) ++ [l]) :
    ∃ before hit, samples = before ++ [hit] ∧ before.length = m ∧ (∀ x ∈ before, x.din ≠ l) ∧ hit.din = l := by
  obtain ⟨before, last, rfl, hbefore, hlast⟩ := List.map_eq_append_iff.mp h
  obtain ⟨hit, rfl, hhit⟩ := List.map_eq_singleton_iff.mp hlast
  refine ⟨before, hit, rfl, by simpa using congrArg List.length hbefore, fun x hx => ?_, hhit⟩
  have hdin : x.din ∈ List.replicate m (!l) := hbefore ▸ List.mem_map_of_mem hx
  rw [List.eq_of_mem_replicate hdin]
  simp

/-- `s` taken to the wait at address `k` in `n` steps, with the counts that `u` holds. -/
def State.atWait (s u : State) (k : Nat) (rel : Bool) (rest : List Inputs) (n : Nat) : State :=
  { s with
    ackc := u.ackc, lo := u.lo, hi := u.hi, upc := BitVec.ofNat 8 k, rel := rel, inputs := rest, tick := s.tick + n }

section
variable {s : State} (hs : s.Inv) (hb : s.busy = true) (hcnt : s.cnt = 0)
include hs hb hcnt

/-- The samples of the wait at address `k` deliver its count and take the read to the next address (R81, R94). -/
theorem State.Inv.stepN_atWait (u : State) {k : Nat} (hk : k < 83) {d : Dest}
    (hd : awaits (romOp k) = some (waitLevel k, d)) {samples rest : List Inputs} (hrst : ∀ x ∈ samples, x.rst = false)
    {m : Nat} (hsamples : samples.map Inputs.din = List.replicate m (!waitLevel k) ++ [waitLevel k])
    (hm : m < s.params.maxIter) (rel : Bool) (n : Nat) :
    stepN samples.length (s.atWait u k rel (samples ++ rest) n) =
      .next (s.atWait (writeDest d (BitVec.ofNat 32 m) u) (k + 1) false rest (n + samples.length)) := by
  obtain ⟨before, hit, rfl, rfl, haway, hhit⟩ := exists_samples_of_wait hsamples
  have hupc : (s.atWait u k rel (before ++ [hit] ++ rest) n).upc.toNat = k := Nat.mod_eq_of_lt (by omega)
  have hfetch : (s.atWait u k rel (before ++ [hit] ++ rest) n).fetch = .op (romOp k) := by
    rw [State.fetch_eq (by exact hs.rom) (by omega), hupc]
  have hbefore : ∀ x ∈ before, x.rst = false ∧ x.din ≠ waitLevel k := fun x hx =>
    ⟨hrst x (List.mem_append_left _ hx), haway x hx⟩
  have hwait := stepN_wait (by exact hs.params) (by exact hb) hfetch hd (by exact hcnt) hbefore (rest := rest)
    (by exact List.append_assoc ..) (by exact hm) (hrst hit (by simp)) hhit
  rw [List.length_append, List.length_singleton, hwait]
  cases d <;> simp [State.atWait, hcnt, BitVec.ofNat_add, Nat.add_assoc]

/-- The first `k` waits of a read, one step a sample, leave their counts in their registers (R97). -/
theorem State.Inv.stepN_waits (hupc : s.upc = 0) {c : Nat → Nat} (hc : ∀ a, a < 83 → c a < s.params.maxIter) {k : Nat}
    (hk : k ≤ 83) {line rest : List Inputs} (hin : s.inputs = line ++ rest) (hrst : ∀ x ∈ line, x.rst = false)
    (hline : line.map Inputs.din = lineOf c k) :
    ∃ u rel, stepN line.length s = .next (s.atWait u k rel rest line.length) ∧ (0 < k → rel = false) ∧
      ∀ d : Dest, d.address < k → (u.countAt d).toNat = c d.address := by
  induction k generalizing line rest with
  | zero =>
    obtain rfl : line = [] := List.map_eq_nil_iff.mp hline
    exact ⟨s, s.rel, by cases s; cases hin; cases hupc; rfl, fun h => absurd h (by decide),
      fun d hd => absurd hd (Nat.not_lt_zero _)⟩
  | succ k ih =>
    rw [lineOf_succ] at hline
    obtain ⟨waits, samples, rfl, hwaits, hsamples⟩ := List.map_eq_append_iff.mp hline
    obtain ⟨u, rel, hrun, -, hcounts⟩ := ih (by omega) (rest := samples ++ rest) (by simp [hin])
      (fun x hx => hrst x (List.mem_append_left _ hx)) hwaits
    obtain ⟨d, hd, haddr⟩ := exists_awaits_romOp (a := k) (by omega)
    refine ⟨writeDest d (BitVec.ofNat 32 (c k)) u, false, ?_, fun _ => rfl, fun e he => ?_⟩
    · rw [List.length_append, stepN_add _ hrun, hs.stepN_atWait hb hcnt u (by omega) hd
        (fun x hx => hrst x (List.mem_append_right _ hx)) hsamples (hc k (by omega))]
    · rw [countAt_writeDest]
      split
      next hde =>
        have hlt := hc k (by omega)
        have hw := Params.valid_width hs.params
        obtain ⟨-, -, -, hmax, -⟩ := Params.valid_iff.mp hs.params
        rw [← hde, haddr, BitVec.toNat_ofNat, Nat.mod_eq_of_lt (by omega)]
      next hde =>
        have hne : e.address ≠ k := fun h => hde (Dest.address_injective (haddr.trans h.symm))
        exact hcounts e (by omega)

/-- The data phase takes the read to `THR` with every count in its register (R97). -/
theorem State.Inv.stepN_line (hupc : s.upc = 0) {c : Nat → Nat} (hc : ∀ a, a < 83 → c a < s.params.maxIter)
    {line rest : List Inputs} (hin : s.inputs = line ++ rest) (hrst : ∀ x ∈ line, x.rst = false)
    (hline : line.map Inputs.din = lineOf c 83) :
    ∃ u, stepN line.length s = .next (s.atWait u 83 false rest line.length) ∧
      (∀ k : Fin 3, u.ackc[k.val].toNat = c k.val) ∧
      ∀ i : Fin 40, u.lo[i.val].toNat = c (3 + 2 * i.val) ∧ u.hi[i.val].toNat = c (4 + 2 * i.val) := by
  obtain ⟨u, rel, hrun, hrel, hcounts⟩ := hs.stepN_waits hb hcnt hupc hc le_rfl hin hrst hline
  cases hrel (by decide)
  exact ⟨u, hrun, fun k => hcounts (.ackc k) (by simp only [Dest.address]; omega),
    fun i => ⟨hcounts (.lo i) (by simp only [Dest.address]; omega),
      hcounts (.hi i) (by simp only [Dest.address]; omega)⟩⟩

end

/-! The end of a read (R137). -/

/-- A bound on the steps a read in flight still takes: one for each count of the wait it is at, and up to `MAX_ITER`
for each address after it. -/
def State.stepsLeft (s : State) : Nat := (131 - s.upc.toNat) * s.params.maxIter - s.cnt.toNat

theorem State.stepsLeft_le (s : State) : s.stepsLeft ≤ 131 * s.params.maxIter :=
  (Nat.sub_le ..).trans (Nat.mul_le_mul_right _ (Nat.sub_le ..))

theorem State.Inv.stepsLeft_pos {s : State} (hs : s.Inv) (hb : s.busy = true) : 0 < s.stepsLeft := by
  obtain ⟨hlt, -⟩ := hs.cnt hb
  have hupc := hs.upc
  exact Nat.sub_pos_of_lt (hlt.trans_le (Nat.le_mul_of_pos_left _ (by omega)))

/-- A micro-operation that goes on with the read completes or counts one more sample (R80, R132). -/
theorem exec_completes_or_counts {i : Instr} {s t : State} (h : exec i s = .next t) (hb : t.busy = true) :
    (t.upc = s.upc + 1 ∧ (t.cnt = 0 ∨ t.cnt = s.cnt)) ∨
      (t.upc = s.upc ∧ s.cnt.toNat + 1 ≠ s.params.maxIter ∧ t.cnt = countOf s.params (s.cnt.toNat + 1)) := by
  obtain ⟨l, d, -, rfl⟩ | ⟨-, rfl⟩ | ⟨_, _, -, -, rfl⟩ | ⟨_, _, -, -, rfl⟩ | ⟨-, -, rfl⟩ | ⟨-, -, rfl⟩ |
    ⟨-, rfl⟩ | ⟨-, rfl⟩ := exec_cases h
  · rcases guardStep_cases l d s with ⟨-, e⟩ | ⟨-, -, e⟩ | ⟨-, hm, e⟩ <;> rw [e] at hb ⊢
    · simp
    · simp at hb
    · simp [hm]
  all_goals simp at hb ⊢

section
variable {s t : State} (hs : s.Inv) (hb : s.busy = true) (hr : s.input.rst = false)
  (h : step s = .next t)
include hs hb hr h

/-- A step of a read is the micro-operation at its address (R130). -/
theorem State.Inv.exists_exec : ∃ i u, romAddress i = s.upc.toNat ∧ exec i s = .next u ∧ t = u.clock := by
  obtain ⟨i, hf⟩ : ∃ i, s.fetch = .op i := ⟨_, State.fetch_eq hs.rom hs.upc⟩
  obtain ⟨u, hu, hstep⟩ := step_exec hs.params hr hb hf
  rw [h] at hstep
  cases hstep
  exact ⟨i, u, (hs.upc_of_fetch hf).symm, hu, rfl⟩

/-- A step of a read ends it, or goes on with fewer steps left. -/
theorem State.Inv.ends_or_stepsLeft_lt :
    (t.busy = false ∧ t.done = true) ∨ (t.busy = true ∧ t.stepsLeft < s.stepsLeft) := by
  obtain ⟨i, u, -, hu, rfl⟩ := hs.exists_exec hb hr h
  rcases exec_continues_or_ends_read hu with ⟨-, hbusy, -⟩ | hend
  · have hb' : u.busy = true := hbusy.trans hb
    obtain ⟨hp, -, -, -⟩ := exec_keeps hu
    obtain ⟨hlt, -⟩ := hs.cnt hb
    have hupc := hs.upc
    have hpos := hs.stepsLeft_pos hb
    rw [State.stepsLeft] at hpos
    refine .inr ⟨hb', ?_⟩
    simp only [State.stepsLeft, State.clock_upc, State.clock_cnt, State.clock_params, hp]
    rcases exec_completes_or_counts hu hb' with ⟨hmove, -⟩ | ⟨hstay, hm, hcnt⟩
    · have hnext : (s.upc + 1).toNat = s.upc.toNat + 1 := by bv_omega
      have hsplit : 131 - s.upc.toNat = 131 - (s.upc.toNat + 1) + 1 := by omega
      rw [hmove, hnext, hsplit, Nat.succ_mul]
      omega
    · rw [hstay, hcnt, countOf_toNat hs.params (by
        obtain ⟨-, -, -, hmax, -⟩ := Params.valid_iff.mp hs.params
        omega)]
      omega
  · obtain ⟨hbusy, hdone, -⟩ := flags_of_endedRead hend
    exact .inl ⟨hbusy, hdone⟩

/-- Past the waits no step of a read goes back to one, or writes the PulseTrain. -/
theorem State.Inv.step_past_waits (hu : 83 ≤ s.upc.toNat) : 83 ≤ t.upc.toNat ∧ t.lo = s.lo ∧ t.hi = s.hi := by
  obtain ⟨i, u, haddr, hrun, rfl⟩ := hs.exists_exec hb hr h
  have hno : awaits i = none := Option.eq_none_iff_forall_ne_some.mpr fun w ha => by
    have := romAddress_le_of_awaits ha
    omega
  obtain ⟨-, -, hlo, hhi⟩ := exec_counts_of_no_await hrun hno
  have hupc := hs.upc
  refine ⟨?_, hlo, hhi⟩
  rcases exec_upc_cases hrun with hstay | ⟨hmove, -⟩
  · rw [State.clock_upc, hstay]
    exact hu
  · rw [State.clock_upc, hmove]
    bv_omega

end

/-- Every read that is not reset ends, and what each of its steps keeps still holds at its end (R137). -/
theorem State.Inv.read_ends {P : State → Prop}
    (hP : ∀ s t : State, s.Inv → s.busy = true → s.input.rst = false → step s = .next t → P s → P t) {n : Nat}
    {s : State} (hs : s.Inv) (hb : s.busy = true) (hPs : P s) (hleft : s.stepsLeft ≤ n) (hlen : n ≤ s.inputs.length)
    (hrst : ∀ x ∈ s.inputs, x.rst = false) :
    ∃ (m : Nat) (t : State), m ≤ n ∧ stepN m s = .next t ∧ t.busy = false ∧ t.done = true ∧ t.Inv ∧ P t := by
  induction n generalizing s with
  | zero => exact absurd (hs.stepsLeft_pos hb) (Nat.not_lt.mpr hleft)
  | succ n ih =>
    obtain ⟨x, xs, hin⟩ : ∃ x xs, s.inputs = x :: xs :=
      List.exists_cons_of_length_pos (Nat.lt_of_lt_of_le (Nat.succ_pos n) hlen)
    have hr : s.input.rst = false := by
      rw [State.input_of_cons hin]
      exact hrst x (by simp [hin])
    obtain ⟨t, ht⟩ := hs.exists_step
    have htP := hP s t hs hb hr ht hPs
    rcases hs.ends_or_stepsLeft_lt hb hr ht with ⟨hbusy, hdone⟩ | ⟨hbusy, hlt⟩
    · exact ⟨1, t, by omega, stepN_one ht, hbusy, hdone, hs.of_step ht, htP⟩
    · obtain ⟨-, -, htail, -⟩ := step_keeps ht
      rw [hin, List.tail_cons] at htail
      rw [hin, List.length_cons] at hlen
      obtain ⟨m, u, hm, hrun, hend⟩ := ih (hs.of_step ht) hbusy htP (by omega) (by rw [htail]; omega)
        (fun y hy => hrst y (by rw [hin]; exact List.mem_cons_of_mem x (htail ▸ hy)))
      exact ⟨m + 1, u, by omega, (stepN_succ m ht).trans hrun, hend⟩

end Sys2Proof.Machine
end

section
/-! SUPPORT. What a line that shows a Frame leaves (R97, R105). -/

namespace Sys2Proof.Machine

open Sys2Proof.Claims

theorem meanOf_eq_meanOfLine {s : State} {c : Nat → Nat} (h : ∀ j : Fin 40, s.lo[j.val].toNat = c (3 + 2 * j.val)) :
    meanOf s = meanOfLine s.params c := by
  simp only [meanOf, lowSumOf, meanOfLine, h]

theorem frame_ext {f g : Frame} (h : ∀ n : Fin 40, f.getLsbD (39 - n.val) = g.getLsbD (39 - n.val)) : f = g :=
  BitVec.eq_of_getLsbD_eq fun k hk => by
    have hbit := h ⟨39 - k, by omega⟩
    rwa [Nat.sub_sub_self (by omega)] at hbit

/-- A Frame as computed from the counts of a line is the Frame that the line shows. -/
theorem sr_eq_of_line {s : State} (hs : AsComputed s) {c : Nat → Nat} {f : Frame}
    (hlo : ∀ j : Fin 40, s.lo[j.val].toNat = c (3 + 2 * j.val))
    (hhi : ∀ j : Fin 40, s.hi[j.val].toNat = c (4 + 2 * j.val))
    (hf : ∀ n : Fin 40, f.getLsbD (39 - n.val) =
      bitFrom s.params (meanOfLine s.params c) (c (4 + 2 * n.val)) (c (3 + 2 * n.val))) : s.sr = f := by
  obtain ⟨-, hbits, -⟩ := hs
  refine frame_ext fun n => ?_
  rw [hbits, hf, meanOf_eq_meanOfLine hlo, hlo, hhi]

section
variable {s : State} (hs : s.Inv) (hd : s.done = true) (hupc : 83 ≤ s.upc.toNat)
include hs hd hupc

/-- A read that ended past the waits has a Frame as computed, whose checksum says how the read ended (R33). -/
theorem State.Inv.verdict_of_done :
    AsComputed s ∧ (ChecksumRight s.sr → s.reading? = some { hum := s.sr.toNat / 2 ^ 24, temp := tenthsOf s.sr }) ∧
      (¬ ChecksumRight s.sr → s.err = 2 ∧ s.reading? = none) := by
  rcases hs.outcome_rows hd with ⟨herr, hend⟩ | ⟨-, hwait, -⟩ | ⟨herr, hend, hbad⟩
  · obtain ⟨hrvalid, -, hhum, htemp⟩ := hs.reading_of_upc hend
    exact ⟨hs.asComputed_of_upc (.inr hend),
      fun _ => State.reading?_eq_some.mpr ⟨hd, herr, hrvalid, by rw [hhum, htemp]⟩,
      fun hbad => absurd (hs.checksumRight_of_upc hend) hbad⟩
  · omega
  · exact ⟨hs.asComputed_of_upc (.inl hend), fun hright => absurd hright hbad,
      fun _ => ⟨herr, by simp [State.reading?, herr]⟩⟩

end

/-- A read past the waits ends, and keeps its PulseTrain (R137). -/
theorem State.Inv.read_ends_past_waits {s : State} (hs : s.Inv) (hb : s.busy = true) (hupc : 83 ≤ s.upc.toNat)
    (hlen : 131 * s.params.maxIter ≤ s.inputs.length) (hrst : ∀ x ∈ s.inputs, x.rst = false) :
    ∃ (m : Nat) (t : State), m ≤ 131 * s.params.maxIter ∧ stepN m s = .next t ∧ t.done = true ∧ t.Inv ∧
      83 ≤ t.upc.toNat ∧ t.params = s.params ∧ t.lo = s.lo ∧ t.hi = s.hi := by
  obtain ⟨m, t, hm, hrun, -, hdone, ht, hkept⟩ := State.Inv.read_ends
    (P := fun t => 83 ≤ t.upc.toNat ∧ t.params = s.params ∧ t.lo = s.lo ∧ t.hi = s.hi)
    (fun u v hu hub hur huv ⟨hpast, hp, hlo, hhi⟩ => by
      obtain ⟨hpast', hlo', hhi'⟩ := hu.step_past_waits hub hur huv hpast
      obtain ⟨hp', -⟩ := step_keeps huv
      exact ⟨hpast', hp'.trans hp, hlo'.trans hlo, hhi'.trans hhi⟩)
    hs hb ⟨hupc, rfl, rfl, rfl⟩ s.stepsLeft_le hlen hrst
  exact ⟨m, t, hm, hrun, hdone, ht, hkept⟩

end Sys2Proof.Machine
end

section
/-! The statements about whole waits and whole reads. -/

namespace Sys2Proof.Proofs

open Sys2Proof.Machine Sys2Proof.Claims

/-- Settles O45: the counter counts the samples away from the level, and the last sample decides. -/
theorem guardWaitHasItsClosedForm : Obligations.GuardWaitHasItsClosedForm := by
  intro s i l d before rest hv hb hcnt hf ha hbefore
  refine ⟨fun hin hlt => ?_, fun hit hin hlt hr hdin => stepN_wait hv hb hf ha hcnt hbefore hin hlt hr hdin,
    fun hin hlen => stepN_timeout hv hb hf ha hcnt hbefore hin hlen⟩
  obtain ⟨rel, hrun⟩ := stepN_away hv hb hf ha hcnt hbefore hin hlt
  exact ⟨_, hrun, rfl, hb, State.waiting_cnt_toNat hv hlt rel rest⟩

/-- Settles O51: each step of a read uses up one of the steps left, of which no build has more than the bound. -/
theorem everyReadTerminates : Obligations.EveryReadTerminates := by
  refine fun p => ⟨131 * p.maxIter, fun s hs hp hb hlen hrst => ?_⟩
  obtain ⟨n, t, hn, hrun, hbusy, hdone, -⟩ := hs.read_ends (P := fun _ => True) (fun _ _ _ _ _ _ _ => trivial) hb
    trivial (hp ▸ s.stepsLeft_le) hlen hrst
  exact ⟨n, t, hn, hrun, hbusy, hdone⟩

/-- Settles O52: one wait after another, each delivering its count to its own register. -/
theorem samplerCollectsThePulseTrain : Obligations.SamplerCollectsThePulseTrain := by
  intro s c line rest hs hb hupc hcnt hin hrst hline hc
  obtain ⟨u, hrun, hack, htrain⟩ := hs.stepN_line hb hcnt hupc hc hin hrst hline
  exact ⟨_, hrun, rfl, hack, htrain⟩

/-- Settles O53: the start action, the line, and a read past its waits, which ends with the PulseTrain it was given. -/
theorem lineOfAFrameGivesItsReading : Obligations.LineOfAFrameGivesItsReading := by
  intro p
  refine ⟨131 * p.maxIter, fun s first line rest c f hs hp hb hin hr hst hrst hline hc hlen hf => ?_⟩
  subst hp
  have hfirst : s.input = first := State.input_of_cons hin
  have hstart := step_start hs.params (hfirst ▸ hr) hb (hfirst ▸ hst)
  have hbegun : (startAction s).clock.Inv := hs.startAction.clock
  obtain ⟨u, hsampled, -, htrain⟩ := hbegun.stepN_line rfl rfl rfl (c := c) (line := line) (rest := rest)
    hc (by simp [hin])
    (fun x hx => hrst x (List.mem_append_left _ hx)) hline
  obtain ⟨m, t, hm, hrun, hdone, ht, hpast, htp, hlo, hhi⟩ := (hbegun.of_stepN hsampled).read_ends_past_waits rfl le_rfl
    hlen (fun x hx => hrst x (List.mem_append_right _ hx))
  have hparams : t.params = s.params := htp
  obtain ⟨hcomputed, hverdict⟩ := ht.verdict_of_done hdone hpast
  have hsr : t.sr = f := sr_eq_of_line hcomputed (fun j => by rw [hlo]; exact (htrain j).1)
    (fun j => by rw [hhi]; exact (htrain j).2) (by rw [hparams]; exact hf)
  refine ⟨1 + (line.length + m), t, ?_, ?_, hdone, hsr, hsr ▸ hverdict⟩
  · have hbound : m ≤ 131 * s.params.maxIter := hm
    omega
  · rw [stepN_add _ (stepN_one hstart), stepN_add _ hsampled, hrun]

end Sys2Proof.Proofs
end
